-- ==== Sys2Proof/Word.lean ====
section
/-! DEFINITION. The word types of the block: the byte the serial side moves, and the 32-bit event word
(20_memory.md R51, R52; 30_encoding.md R70). -/

namespace Sys2Proof

/-- One byte on the serial line, or one display cell (20_memory.md R51). -/
abbrev Byte := BitVec 8

/-- One event word: 32 bits delivered in parallel, with no byte order (20_memory.md R52, 30_encoding.md R70). -/
abbrev EventWord := BitVec 32

/-- A logical segment pattern: bit `i` set means segment `i` is lit (10_state.md R27). -/
abbrev Pattern := BitVec 7

end Sys2Proof
end

