-- ==== Sys2Proof/Config.lean ====
section
/-! DEFINITION. What an implementation of the block fixes: the parameters of 00_scope.md R7, as plain data whose legal
ranges hold by type where a type can say them, and the free values of R11 (`draw_N`), which have no body. -/

namespace Sys2Proof

/-- The ten event codes of 30_encoding.md R72, by name. -/
inductive EventCode where
  | rxb | txrdy | arm | tick | edge | debexp | conv | pwmpb | bcdpub | ctrlw
deriving DecidableEq, Repr

/-- `ADC_RES`: the legal converter resolutions, 8 to 12 bits (00_scope.md R7). -/
inductive AdcRes where
  | bits8 | bits9 | bits10 | bits11 | bits12
deriving DecidableEq, Repr

/-- The resolution as a number of bits. -/
def AdcRes.bits : AdcRes → Nat
  | .bits8 => 8
  | .bits9 => 9
  | .bits10 => 10
  | .bits11 => 11
  | .bits12 => 12

/-- `SEG_TABLE`: the logical segment pattern of each digit 0 to 9 (00_scope.md R7, 41_display_mux.md R110). -/
structure SegTable where
  d0 : Pattern
  d1 : Pattern
  d2 : Pattern
  d3 : Pattern
  d4 : Pattern
  d5 : Pattern
  d6 : Pattern
  d7 : Pattern
  d8 : Pattern
  d9 : Pattern
deriving DecidableEq, Repr

/-- `DEBOUNCE_ACTION`: what a confirmed press does (00_scope.md R7, 44_debouncer.md R141). -/
inductive DebounceAction where
  | triggerSample
  | toggleIndicator
deriving DecidableEq, Repr

/-- `TRIGGER_SOURCE`: what starts conversions; no rule of the block reads it (45_sampler_pwm.md R154). -/
inductive TriggerSource where
  | softwareOneShot
  | periodicTimer
deriving DecidableEq, Repr

/-- `BCD_OVERRANGE`: what BCD encoding gives above 99 (40_bcd.md R102). -/
inductive BcdOverrange where
  | algorithm
  | draw
deriving DecidableEq, Repr

/-- `EVENT_PRIORITY`: no order, or a fixed order of the event codes, highest first (60_exceptions.md R175). -/
inductive EventPriority where
  | unconstrained
  | fixed (highestFirst : List EventCode)
deriving DecidableEq, Repr

/-- A fixed priority is a total order when every code stands in the list exactly once (00_scope.md R7). -/
def EventPriority.legal : EventPriority → Bool
  | .unconstrained => true
  | .fixed order => decide (order.Nodup ∧ order.length = 10)

/-- The parameters of 00_scope.md R7 that a rule of the block names. `RAW_FULL_SCALE` is `2 ^ ADC_RES` (D20) and needs no
field. `pwmTop` is `PWM_PERIOD - 1`, so that its type says `1 ≤ PWM_PERIOD ≤ 65536`. -/
structure Params where
  adcRes : AdcRes
  pwmTop : Fin 65536
  segTable : SegTable
  segActiveLow : Bool
  selActiveLow : Bool
  debounceAction : DebounceAction
  triggerSource : TriggerSource
  bcdOverrange : BcdOverrange
  eventPriority : EventPriority
deriving DecidableEq, Repr

/-- `PWM_PERIOD`, in counter units (00_scope.md R7). -/
def Params.pwmPeriod (p : Params) : Nat := p.pwmTop.val + 1

/-- `RAW_FULL_SCALE = 2 ^ ADC_RES`, the divisor of the duty mapping (00_scope.md R7, D20). -/
def Params.rawFullScale (p : Params) : Nat := 2 ^ p.adcRes.bits

/-- `draw_7()`: the `k`-th free 7-bit value of a run (00_scope.md R11, 41_display_mux.md R110; log 4). No body: nothing
can be proved about a value of it. -/
opaque Config.draw7 : Nat → BitVec 7

/-- `draw_4()`: the `k`-th free 4-bit value of a run (00_scope.md R11, 40_bcd.md R102; log 4). No body. -/
opaque Config.draw4 : Nat → BitVec 4

end Sys2Proof
end

