-- ==== Sys2Proof/Machine/Defaults.lean ====
section
/-! DEFINITION. The parameter values State.reset starts with: the defaults the spec names, and for an OPEN parameter the
value of its own test vectors (95_test_vectors.md section 1). DESIGN CHOICE, log 1. -/

namespace Sys2Proof

/-- The default `SEG_TABLE` (41_display_mux.md R110; supplied from general knowledge, 93_implementation_defined.md G1). -/
def segTableDefault : SegTable where
  d0 := 0x3F
  d1 := 0x06
  d2 := 0x5B
  d3 := 0x4F
  d4 := 0x66
  d5 := 0x6D
  d6 := 0x7D
  d7 := 0x07
  d8 := 0x7F
  d9 := 0x6F

/-- The parameters of State.reset (DESIGN CHOICE, log 1): `ADC_RES = 10`, `PWM_PERIOD = 1000`, `TriggerSample` and the
default table as in 95_test_vectors.md section 1; `Algorithm` and `Unconstrained` as in 00_scope.md R7; the rest, which
no event's effect depends on, at a value named in the log. -/
def paramsDefault : Params where
  adcRes := .bits10
  pwmTop := 999
  segTable := segTableDefault
  segActiveLow := false
  selActiveLow := false
  debounceAction := .triggerSample
  triggerSource := .softwareOneShot
  bcdOverrange := .algorithm
  eventPriority := .unconstrained

end Sys2Proof
end

