-- ==== Sys2Proof/Syntax.lean ====
section
/-! DEFINITION. The ten events of the block, one constructor per row of opcode_table.json, each with the operands of
30_encoding.md R73 at their own widths. -/

namespace Sys2Proof

/-- An event with its operands (30_encoding.md R72, R73). -/
inductive Instr where
  /-- One received byte (42_framer_rx.md R121). -/
  | rxb (byte : Byte)
  /-- The transmitter can take the next byte (43_framer_tx.md R131). -/
  | txrdy
  /-- The main loop arms the echo (43_framer_tx.md R130). -/
  | arm
  /-- One tick of the display timer (41_display_mux.md R111). -/
  | tick
  /-- A falling edge of the button input (44_debouncer.md R140). -/
  | edge
  /-- The one-shot timer expired; `level` is the re-sampled button level (44_debouncer.md R141). -/
  | debexp (level : BitVec 1)
  /-- A conversion completed with this raw sample (45_sampler_pwm.md R151). -/
  | conv (raw : BitVec 12)
  /-- The PWM period boundary (45_sampler_pwm.md R152). -/
  | pwmpb
  /-- The BCD Encoder publishes the encoding of `n` (40_bcd.md R103). -/
  | bcdpub (n : BitVec 16)
  /-- Write of the interrupt-enable register (46_control.md R161). -/
  | ctrlw (en : BitVec 5)
deriving DecidableEq, Repr

end Sys2Proof
end

