-- ==== Sys2Proof/WellFormed.lean ====
section
/-! DEFINITION. Which events have an event word under given parameters: every operand has its field's width by type, so
the one check left is the sample range of CONV (30_encoding.md R73). -/

namespace Sys2Proof

/-- The event has an event word: a CONV sample must lie below `2 ^ ADC_RES` (30_encoding.md R73). -/
def wellFormed (p : Params) : Instr → Bool
  | .rxb _ => true
  | .txrdy => true
  | .arm => true
  | .tick => true
  | .edge => true
  | .debexp _ => true
  | .conv raw => decide (raw.toNat < p.rawFullScale)
  | .pwmpb => true
  | .bcdpub _ => true
  | .ctrlw _ => true

end Sys2Proof
end

