-- ==== Sys2Proof/Decode.lean ====
section
/-! DEFINITION. The event word (30_encoding.md R70 to R74): its three fields, the decoder, total on every 32-bit word and
refusing by name in R71's order, and the encoder, written from the same tables. -/

namespace Sys2Proof

/-- Why a word spells no event (30_encoding.md R71, 60_exceptions.md R172). -/
inductive Invalid where
  /-- `RSV[27:16]` is not 0. -/
  | reservedBitsSet
  /-- The code is 0x0 or 0xB to 0xF. -/
  | reservedOpcode
  /-- The payload breaks its event's payload rule (R73). -/
  | payloadOutOfRange
deriving DecidableEq, Repr

/-- `OP = w[31:28]` (30_encoding.md R70). -/
def opField (w : EventWord) : BitVec 4 := w.extractLsb' 28 4

/-- `RSV = w[27:16]` (30_encoding.md R70). -/
def rsvField (w : EventWord) : BitVec 12 := w.extractLsb' 16 12

/-- `PAY = w[15:0]` (30_encoding.md R70). -/
def payField (w : EventWord) : BitVec 16 := w.extractLsb' 0 16

/-- The `OP` value of each event code (30_encoding.md R72). -/
def eventBits : EventCode → BitVec 4
  | .rxb => 0x1
  | .txrdy => 0x2
  | .arm => 0x3
  | .tick => 0x4
  | .edge => 0x5
  | .debexp => 0x6
  | .conv => 0x7
  | .pwmpb => 0x8
  | .bcdpub => 0x9
  | .ctrlw => 0xA

/-- The event code an `OP` value names; `none` for the reserved values 0x0 and 0xB to 0xF (30_encoding.md R72, R74). -/
def eventOf (op : BitVec 4) : Option EventCode :=
  match op.toNat with
  | 0x1 => some .rxb
  | 0x2 => some .txrdy
  | 0x3 => some .arm
  | 0x4 => some .tick
  | 0x5 => some .edge
  | 0x6 => some .debexp
  | 0x7 => some .conv
  | 0x8 => some .pwmpb
  | 0x9 => some .bcdpub
  | 0xA => some .ctrlw
  | _ => none

/-- The event, if the payload keeps its rule. -/
def whenLegal (legal : Bool) (i : Instr) : Option Instr := if legal then some i else none

/-- Operand assembly from `PAY`; `none` where the payload rule fails (30_encoding.md R73). -/
def assembleOperands (p : Params) (pay : BitVec 16) : EventCode → Option Instr
  | .rxb => whenLegal (pay.extractLsb' 8 8 == 0) (.rxb (pay.extractLsb' 0 8))
  | .txrdy => whenLegal (pay == 0) .txrdy
  | .arm => whenLegal (pay == 0) .arm
  | .tick => whenLegal (pay == 0) .tick
  | .edge => whenLegal (pay == 0) .edge
  | .debexp => whenLegal (pay.extractLsb' 1 15 == 0) (.debexp (pay.extractLsb' 0 1))
  | .conv =>
    whenLegal (pay.extractLsb' 12 4 == 0 && decide ((pay.extractLsb' 0 12).toNat < p.rawFullScale))
      (.conv (pay.extractLsb' 0 12))
  | .pwmpb => whenLegal (pay == 0) .pwmpb
  | .bcdpub => some (.bcdpub pay)
  | .ctrlw => whenLegal (pay.extractLsb' 5 11 == 0) (.ctrlw (pay.extractLsb' 0 5))

/-- `decode(w)`: the tests of 30_encoding.md R71, in its order, which fixes the reason reported. -/
def decode (p : Params) (w : EventWord) : Except Invalid Instr :=
  if rsvField w ≠ 0 then .error .reservedBitsSet
  else
    match eventOf (opField w) with
    | none => .error .reservedOpcode
    | some c =>
      match assembleOperands p (payField w) c with
      | none => .error .payloadOutOfRange
      | some i => .ok i

/-- The code of an event (30_encoding.md R72). -/
def codeOf : Instr → EventCode
  | .rxb _ => .rxb
  | .txrdy => .txrdy
  | .arm => .arm
  | .tick => .tick
  | .edge => .edge
  | .debexp _ => .debexp
  | .conv _ => .conv
  | .pwmpb => .pwmpb
  | .bcdpub _ => .bcdpub
  | .ctrlw _ => .ctrlw

/-- The payload that carries an event's operands (30_encoding.md R73). -/
def payloadOf : Instr → BitVec 16
  | .rxb byte => byte.setWidth 16
  | .txrdy => 0
  | .arm => 0
  | .tick => 0
  | .edge => 0
  | .debexp level => level.setWidth 16
  | .conv raw => raw.setWidth 16
  | .pwmpb => 0
  | .bcdpub n => n
  | .ctrlw en => en.setWidth 16

/-- The event word `OP, RSV = 0, PAY` of an event (30_encoding.md R70, R72). -/
def encode (i : Instr) : EventWord := eventBits (codeOf i) ++ (0 : BitVec 12) ++ payloadOf i

/-- The event the decoder reads from the `nbits` low bits of `w`, under the parameters of State.reset (log 1); bits above
`nbits` are 0, and no event is longer than 32 bits (30_encoding.md R70). -/
def decodeTableWord (nbits w : Nat) : Option Instr :=
  if w % 2 ^ nbits < 2 ^ 32 then
    match decode paramsDefault (BitVec.ofNat 32 (w % 2 ^ nbits)) with
    | .ok i => some i
    | .error _ => none
  else none

end Sys2Proof
end

