-- ==== Sys2Proof/Machine/State.lean ====
section
/-! DEFINITION. The state of the block: the tuple of 10_state.md R20, then the output list of the step just taken (R35),
the sticky refusal mark (60_exceptions.md R172), the parameters (00_scope.md R7) and two fields of the model's own (the
events still to come, the count of draws). Plain data throughout; reset as 70_reset_and_hazards.md R200 says. -/

namespace Sys2Proof.Machine

/-- `RX_STATE` (10_state.md R21). -/
inductive RxState where
  | idle | gotStart | gotDigit1 | gotDigit2
deriving DecidableEq, Repr

/-- `TX_STATE`: the next byte to send (10_state.md R25). -/
inductive TxState where
  | idle | sendDigit1 | sendDigit2 | sendEnd
deriving DecidableEq, Repr

/-- `MUX_STATE`: the digit position that is active (10_state.md R26). -/
inductive MuxState where
  | showDigit1 | showDigit2
deriving DecidableEq, Repr

/-- `DEB_STATE` (10_state.md R28). -/
inductive DebState where
  | armed | settling
deriving DecidableEq, Repr

/-- A digit position, `k ∈ {1, 2}` (10_state.md R35). -/
inductive DigitPos where
  | one | two
deriving DecidableEq, Repr

/-- The output actions of 10_state.md R35. -/
inductive Action where
  /-- `TXD(b)`: write a byte to the transmit data register. -/
  | txd (b : Byte)
  /-- `DESEL(k)`: drive digit `k`'s select line to deselected. -/
  | desel (k : DigitPos)
  /-- `SEGW(p)`: drive the segment lines with a logical pattern. -/
  | segw (p : Pattern)
  /-- `SELA(k)`: drive digit `k`'s select line to selected. -/
  | sela (k : DigitPos)
  /-- `OSTART`: start the one-shot debounce timer. -/
  | ostart
  /-- `ADCGO`: start one conversion. -/
  | adcgo
deriving DecidableEq, Repr

/-- The sticky refusal mark: which reasons have been recorded (60_exceptions.md R172; log 3). -/
structure RefusalMark where
  reservedBitsSet : Bool
  reservedOpcode : Bool
  payloadOutOfRange : Bool
deriving DecidableEq, Repr

/-- No refusal recorded. -/
def RefusalMark.none : RefusalMark := ⟨false, false, false⟩

/-- The state of the block and of the run it is in. -/
structure State where
  /-- `RX_STATE` (R21). -/
  rxState : RxState
  /-- `WIN0`, the first digit-candidate (R22). -/
  win0 : Byte
  /-- `WIN1`, the second digit-candidate (R22). -/
  win1 : Byte
  /-- `DIG1`, display position 1 (R23). -/
  dig1 : Byte
  /-- `DIG2`, display position 2 (R23). -/
  dig2 : Byte
  /-- `PKT_FLAG` (R24). -/
  pktFlag : Bool
  /-- `TX_STATE` (R25). -/
  txState : TxState
  /-- `MUX_STATE` (R26). -/
  muxState : MuxState
  /-- `SEL1`, true when digit 1 is selected (R27). -/
  sel1 : Bool
  /-- `SEL2`, true when digit 2 is selected (R27). -/
  sel2 : Bool
  /-- `SEG`, the logical segment pattern (R27). -/
  seg : Pattern
  /-- `DEB_STATE` (R28). -/
  debState : DebState
  /-- `INDICATOR` (R29). -/
  indicator : Bool
  /-- `SAMPLE` (R30). -/
  sample : BitVec 12
  /-- `CMP_SHADOW` (R31). -/
  cmpShadow : BitVec 16
  /-- `CMP_ACTIVE` (R31). -/
  cmpActive : BitVec 16
  /-- `CTRL`: bit 0 RX_EN, 1 TX_EN, 2 MUX_EN, 3 DEB_EN, 4 ADC_EN (R32). -/
  ctrl : BitVec 5
  /-- The ordered output list of the step just taken, and of that step alone (R35, R12; log 6). -/
  outs : List Action
  /-- The sticky refusal mark (R172). -/
  mark : RefusalMark
  /-- The parameters, fixed for the run (R7, R8). -/
  params : Params
  /-- The event words the environment has still to deliver, first first: the model's own (R12; log 2). -/
  input : List EventWord
  /-- How many free values have been drawn: the model's own (R11; log 4). -/
  drawCount : Nat
deriving DecidableEq, Repr

/-- The block has no fault outcome (60_exceptions.md R170), so there is no fault: no constructor, and nothing raises one. -/
inductive Fault where
deriving DecidableEq, Repr

/-- Host-level refusals. The SPEC's refusal of an event word is no stop: it is a next state with the sticky mark set
(60_exceptions.md R172; log 3). -/
inductive Refusal where
  /-- An event without a meaning. Every event has one, so nothing raises it (safe). -/
  | notModelled (mnemonic : String)
deriving DecidableEq, Repr

/-- The outcome of a meaning or of a step. -/
abbrev Result := Host.Outcome State Fault Refusal

/-- The reset state under the parameters `p` (70_reset_and_hazards.md R200, R201; 10_state.md R20). -/
def State.resetWith (p : Params) : State where
  rxState := .idle
  win0 := 0x00
  win1 := 0x00
  dig1 := 0
  dig2 := 0
  pktFlag := false
  txState := .idle
  muxState := .showDigit2
  sel1 := false
  sel2 := false
  seg := 0b0000000
  debState := .armed
  indicator := false
  sample := 0
  cmpShadow := 0
  cmpActive := 0
  ctrl := 0b11111
  outs := []
  mark := RefusalMark.none
  params := p
  input := []
  drawCount := 0

/-- The machine right after reset, under the default parameters (log 1). -/
def State.reset : State := State.resetWith paramsDefault

end Sys2Proof.Machine
end

