-- ==== Sys2Proof/Machine/Operands.lean ====
section
/-! DEFINITION. What the operands and the cells stand for: the framer's symbols and digit decoding, the pressed level,
the duty mapping, the segment lookup and the double-dabble encoding. Pure functions; a function that may draw takes the
draw count and gives it back beside its value. -/

namespace Sys2Proof.Machine

/-- `SYM_START = 0x73` (42_framer_rx.md R120). -/
def symStart : Byte := 0x73

/-- `SYM_END = 0x74` (42_framer_rx.md R120). -/
def symEnd : Byte := 0x74

/-- `SYM_ZERO = 0x30` (42_framer_rx.md R120). -/
def symZero : Byte := 0x30

/-- `dec(b) = (b - SYM_ZERO) mod 256`, with no bounds check (42_framer_rx.md R122). -/
def digitOf (b : Byte) : Byte := b - symZero

/-- `pressed(level) = (level = 0)`: the input is active-low (44_debouncer.md R142). -/
def pressed (level : BitVec 1) : Bool := level == 0

/-- `duty(raw) = (raw * PWM_PERIOD) div RAW_FULL_SCALE`, exact product, floor division (45_sampler_pwm.md R150). -/
def duty (p : Params) (raw : Nat) : Nat := raw * p.pwmPeriod / p.rawFullScale

/-- `SEG_TABLE[d]` for `d` in 0 to 9 (41_display_mux.md R110). -/
def segEntry (t : SegTable) (d : Byte) : Option Pattern :=
  match d.toNat with
  | 0 => some t.d0
  | 1 => some t.d1
  | 2 => some t.d2
  | 3 => some t.d3
  | 4 => some t.d4
  | 5 => some t.d5
  | 6 => some t.d6
  | 7 => some t.d7
  | 8 => some t.d8
  | 9 => some t.d9
  | _ => none

/-- `segpat(d)`: the table's entry, or a drawn pattern for a digit above 9 (41_display_mux.md R110). The second part is
the draw count after. -/
def segPattern (t : SegTable) (drawn : Nat) (d : Byte) : Pattern × Nat :=
  match segEntry t d with
  | some p => (p, drawn)
  | none => (Config.draw7 drawn, drawn + 1)

/-- The two 4-bit accumulators of the double-dabble algorithm (40_bcd.md R100). -/
structure BcdAcc where
  tens : BitVec 4
  units : BitVec 4
deriving DecidableEq, Repr

/-- The add-3 correction of one nibble (40_bcd.md R100). -/
def addThree (v : BitVec 4) : BitVec 4 := if 5 ≤ v.toNat then v + 3 else v

/-- Shift a bit into a nibble, `{v[2:0], b}` (40_bcd.md R100). -/
def shiftIn (v : BitVec 4) (b : Bool) : BitVec 4 := v.extractLsb' 0 3 ++ BitVec.ofBool b

/-- One iteration: both corrections, then the shift; the carry out of the tens nibble is discarded (40_bcd.md R100). -/
def bcdIterate (a : BcdAcc) (b : Bool) : BcdAcc where
  tens := shiftIn (addThree a.tens) ((addThree a.units).getLsbD 3)
  units := shiftIn (addThree a.units) b

/-- The iterations for bits `k - 1` down to 0 of `n` (40_bcd.md R100). -/
def bcdLoop (n : BitVec 16) : Nat → BcdAcc → BcdAcc
  | 0, a => a
  | k + 1, a => bcdLoop n k (bcdIterate a (n.getLsbD k))

/-- `bcd16(n)`: tens and units after all sixteen bits, from accumulators of 0 (40_bcd.md R100). -/
def bcd16 (n : BitVec 16) : BcdAcc := bcdLoop n 16 ⟨0, 0⟩

/-- The digits BCDPUB publishes: the algorithm's, or two draws for `n > 99` under `BCD_OVERRANGE = Draw` (40_bcd.md R102).
The second part is the draw count after. -/
def bcdDigits (o : BcdOverrange) (drawn : Nat) (n : BitVec 16) : BcdAcc × Nat :=
  match o with
  | .algorithm => (bcd16 n, drawn)
  | .draw =>
    if 99 < n.toNat then (⟨Config.draw4 drawn, Config.draw4 (drawn + 1)⟩, drawn + 2)
    else (bcd16 n, drawn)

end Sys2Proof.Machine
end

