-- ==== Sys2Proof/Machine/Ops.lean ====
section
/-! DEFINITION. The operations every meaning shares: ending a step with an output list, ignoring an event, gating it,
refusing a word, taking the next event, and writing the DigitBuffer. The block has no memory (20_memory.md R50) and takes
no exception, so there is no trap entry and no return here (60_exceptions.md R170, R177, R178). -/

namespace Sys2Proof.Machine

/-- The state with this step's ordered output list (10_state.md R35). -/
def State.emit (l : List Action) (s : State) : State := { s with outs := l }

/-- End a step: the new state, with the step's output list (00_scope.md R11, R12). -/
def accept (l : List Action) (s : State) : Result := .next (s.emit l)

/-- `ignore`: the event is accepted, changes nothing and emits nothing (00_scope.md R11). -/
def ignore (s : State) : Result := accept [] s

/-- `RX_EN`, bit 0 of `CTRL` (10_state.md R32). -/
def State.rxEn (s : State) : Bool := s.ctrl.getLsbD 0

/-- `TX_EN`, bit 1 of `CTRL` (10_state.md R32). -/
def State.txEn (s : State) : Bool := s.ctrl.getLsbD 1

/-- `MUX_EN`, bit 2 of `CTRL` (10_state.md R32). -/
def State.muxEn (s : State) : Bool := s.ctrl.getLsbD 2

/-- `DEB_EN`, bit 3 of `CTRL` (10_state.md R32). -/
def State.debEn (s : State) : Bool := s.ctrl.getLsbD 3

/-- `ADC_EN`, bit 4 of `CTRL` (10_state.md R32). -/
def State.adcEn (s : State) : Bool := s.ctrl.getLsbD 4

/-- Gating: an event whose unit's enable bit is 0 is accepted and ignored (46_control.md R160). -/
def whenEnabled (enabled : Bool) (s : State) (meaning : State → Result) : Result :=
  if enabled then meaning s else ignore s

/-- `EDGE_IE`: the edge interrupt is enabled (10_state.md R28). -/
def State.edgeIe (s : State) : Bool := s.debState == .armed

/-- `OST_RUN`: the one-shot timer is counting (10_state.md R28). -/
def State.ostRun (s : State) : Bool := s.debState == .settling

/-- Record a reason in the sticky mark; nothing is ever cleared (60_exceptions.md R172; log 3). -/
def RefusalMark.record (m : RefusalMark) : Invalid → RefusalMark
  | .reservedBitsSet => { m with reservedBitsSet := true }
  | .reservedOpcode => { m with reservedOpcode := true }
  | .payloadOutOfRange => { m with payloadOutOfRange := true }

/-- `refuse(reason)`: no element changes and nothing is emitted; the reason is recorded (60_exceptions.md R172). -/
def State.refuse (r : Invalid) (s : State) : State := { s with outs := [], mark := s.mark.record r }

/-- End a step with a refused word (60_exceptions.md R172). -/
def refuseWord (r : Invalid) (s : State) : Result := .next (s.refuse r)

/-- Write both DigitBuffer cells (10_state.md R23, 20_memory.md R54). -/
def State.publish (d1 d2 : Byte) (s : State) : State := { s with dig1 := d1, dig2 := d2 }

/-- The events still to come, replaced (log 2). -/
def State.awaiting (l : List EventWord) (s : State) : State := { s with input := l }

/-- The next event word the environment delivers, and the state without it (00_scope.md R12; log 2). -/
def State.takeEvent (s : State) : Option (EventWord × State) :=
  match s.input with
  | [] => none
  | w :: rest => some (w, s.awaiting rest)

/-- No event is delivered: the block holds its state and emits nothing (60_exceptions.md R185; log 2, log 6). -/
def State.idle (s : State) : State := s.emit []

end Sys2Proof.Machine
end

