-- ==== Sys2Proof/Machine/Bcd.lean ====
section
/-! DEFINITION. BCD Encoder: BCDPUB (40_bcd.md). -/

namespace Sys2Proof.Machine

/-- BCDPUB: publish the digits of `n`, each zero-extended to 8 bits; `PKT_FLAG` is untouched; never gated
(40_bcd.md R103). -/
def execBcdpub (n : BitVec 16) (s : State) : Result :=
  accept []
    { s.publish ((bcdDigits s.params.bcdOverrange s.drawCount n).1.tens.setWidth 8)
        ((bcdDigits s.params.bcdOverrange s.drawCount n).1.units.setWidth 8) with
      drawCount := (bcdDigits s.params.bcdOverrange s.drawCount n).2 }

end Sys2Proof.Machine
end

