-- ==== Sys2Proof/Machine/Control.lean ====
section
/-! DEFINITION. Interrupt-enable control: CTRLW (46_control.md). -/

namespace Sys2Proof.Machine

/-- CTRLW: whole-register write of `CTRL`; all 32 values are legal; never gated (46_control.md R161). -/
def execCtrlw (en : BitVec 5) (s : State) : Result := accept [] { s with ctrl := en }

end Sys2Proof.Machine
end

