-- ==== Sys2Proof/Machine/Debouncer.lean ====
section
/-! DEFINITION. Button Debouncer: EDGE and DEBEXP (44_debouncer.md). -/

namespace Sys2Proof.Machine

/-- A falling edge: start the timer when Armed, ignored when Settling (44_debouncer.md R140). -/
def onEdge (s : State) : Result :=
  match s.debState with
  | .armed => accept [.ostart] { s with debState := .settling }
  | .settling => ignore s

/-- EDGE, gated by `DEB_EN` (44_debouncer.md R140). -/
def execEdge (s : State) : Result := whenEnabled s.debEn s onEdge

/-- The timer's expiry: act on a confirmed press, re-arm in any case; ignored when Armed (44_debouncer.md R141). -/
def onExpiry (level : BitVec 1) (s : State) : Result :=
  match s.debState with
  | .armed => ignore s
  | .settling =>
    if pressed level then
      match s.params.debounceAction with
      | .triggerSample => accept [.adcgo] { s with debState := .armed }
      | .toggleIndicator => accept [] { s with indicator := !s.indicator, debState := .armed }
    else accept [] { s with debState := .armed }

/-- DEBEXP, gated by `DEB_EN` (44_debouncer.md R141). -/
def execDebexp (level : BitVec 1) (s : State) : Result := whenEnabled s.debEn s (onExpiry level)

end Sys2Proof.Machine
end

