-- ==== Sys2Proof/Machine/DisplayMux.lean ====
section
/-! DEFINITION. Display Multiplexer: TICK (41_display_mux.md). -/

namespace Sys2Proof.Machine

/-- One multiplexing step: deselect the other digit, write the pattern, select this digit (41_display_mux.md R111). -/
def switchDigit (s : State) : Result :=
  match s.muxState with
  | .showDigit2 =>
    accept [.desel .two, .segw (segPattern s.params.segTable s.drawCount s.dig1).1, .sela .one]
      { s with
        sel2 := false
        seg := (segPattern s.params.segTable s.drawCount s.dig1).1
        sel1 := true
        muxState := .showDigit1
        drawCount := (segPattern s.params.segTable s.drawCount s.dig1).2 }
  | .showDigit1 =>
    accept [.desel .one, .segw (segPattern s.params.segTable s.drawCount s.dig2).1, .sela .two]
      { s with
        sel1 := false
        seg := (segPattern s.params.segTable s.drawCount s.dig2).1
        sel2 := true
        muxState := .showDigit2
        drawCount := (segPattern s.params.segTable s.drawCount s.dig2).2 }

/-- TICK, gated by `MUX_EN` (41_display_mux.md R111). -/
def execTick (s : State) : Result := whenEnabled s.muxEn s switchDigit

end Sys2Proof.Machine
end

