-- ==== Sys2Proof/Machine/Flags.lean ====
section
/-! DEFINITION. The one status flag, `PKT_FLAG` (10_state.md R24): raised by an accepting RXB, cleared by the ARM that
starts an echo. -/

namespace Sys2Proof.Machine

/-- `PKT_FLAG <- 1` on acceptance; already 1 stays 1 (42_framer_rx.md R121, R124). -/
def State.raisePacketFlag (s : State) : State := { s with pktFlag := true }

/-- `PKT_FLAG <- 0` when a transmission starts (43_framer_tx.md R130, D8). -/
def State.clearPacketFlag (s : State) : State := { s with pktFlag := false }

/-- The condition under which ARM starts an echo (43_framer_tx.md R130). -/
def State.canStartEcho (s : State) : Bool := s.pktFlag && s.txState == .idle

end Sys2Proof.Machine
end

