-- ==== Sys2Proof/Machine/FramerRx.lean ====
section
/-! DEFINITION. Serial Packet Framer, receive side: RXB (42_framer_rx.md). -/

namespace Sys2Proof.Machine

/-- One row of the receive transition table for the byte `b` (42_framer_rx.md R121). -/
def receive (b : Byte) (s : State) : Result :=
  match s.rxState with
  | .idle => if b = symStart then accept [] { s with rxState := .gotStart } else ignore s
  | .gotStart => accept [] { s with win0 := b, rxState := .gotDigit1 }
  | .gotDigit1 => accept [] { s with win1 := b, rxState := .gotDigit2 }
  | .gotDigit2 =>
    if b = symEnd then
      accept [] { (s.publish (digitOf s.win0) (digitOf s.win1)).raisePacketFlag with rxState := .idle }
    else accept [] { s with rxState := .idle }

/-- RXB, gated by `RX_EN` (42_framer_rx.md R121). -/
def execRxb (byte : Byte) (s : State) : Result := whenEnabled s.rxEn s (receive byte)

end Sys2Proof.Machine
end

