-- ==== Sys2Proof/Machine/FramerTx.lean ====
section
/-! DEFINITION. Serial Packet Framer, transmit side: ARM and TXRDY (43_framer_tx.md). -/

namespace Sys2Proof.Machine

/-- ARM: start the echo of a flagged packet when no echo is in progress; never gated (43_framer_tx.md R130). -/
def execArm (s : State) : Result :=
  if s.canStartEcho then accept [.txd symStart] { s.clearPacketFlag with txState := .sendDigit1 }
  else ignore s

/-- The next byte of the echo, the window cells read live (43_framer_tx.md R131, D11). -/
def sendNext (s : State) : Result :=
  match s.txState with
  | .idle => ignore s
  | .sendDigit1 => accept [.txd s.win0] { s with txState := .sendDigit2 }
  | .sendDigit2 => accept [.txd s.win1] { s with txState := .sendEnd }
  | .sendEnd => accept [.txd symEnd] { s with txState := .idle }

/-- TXRDY, gated by `TX_EN` (43_framer_tx.md R131). -/
def execTxrdy (s : State) : Result := whenEnabled s.txEn s sendNext

end Sys2Proof.Machine
end

