-- ==== Sys2Proof/Machine/SamplerPwm.lean ====
section
/-! DEFINITION. Sampler/PWM Coupler: CONV and PWMPB (45_sampler_pwm.md). -/

namespace Sys2Proof.Machine

/-- A conversion result: the sample and its duty into the shadow register (45_sampler_pwm.md R151). -/
def convert (raw : BitVec 12) (s : State) : Result :=
  accept [] { s with sample := raw, cmpShadow := BitVec.ofNat 16 (duty s.params raw.toNat) }

/-- CONV, gated by `ADC_EN` (45_sampler_pwm.md R151). A sample not below `2 ^ ADC_RES` has no event word: it is refused
as the decoder refuses its word, before gating (30_encoding.md R71, R73; log 5). -/
def execConv (raw : BitVec 12) (s : State) : Result :=
  if raw.toNat < s.params.rawFullScale then whenEnabled s.adcEn s (convert raw)
  else refuseWord .payloadOutOfRange s

/-- PWMPB: the double buffer loads; never gated (45_sampler_pwm.md R152). -/
def execPwmpb (s : State) : Result := accept [] { s with cmpActive := s.cmpShadow }

end Sys2Proof.Machine
end

