-- ==== Sys2Proof/Machine/Dispatch.lean ====
section
/-! DEFINITION. The meaning of each event: one arm per constructor, one call per arm (30_encoding.md R72). -/

namespace Sys2Proof.Machine

/-- The effect of one decoded event (00_scope.md R12). -/
def exec (i : Instr) (s : State) : Host.Outcome State Fault Refusal :=
  match i with
  | .rxb byte => Sys2Proof.Machine.execRxb byte s
  | .txrdy => Sys2Proof.Machine.execTxrdy s
  | .arm => Sys2Proof.Machine.execArm s
  | .tick => Sys2Proof.Machine.execTick s
  | .edge => Sys2Proof.Machine.execEdge s
  | .debexp level => Sys2Proof.Machine.execDebexp level s
  | .conv raw => Sys2Proof.Machine.execConv raw s
  | .pwmpb => Sys2Proof.Machine.execPwmpb s
  | .bcdpub n => Sys2Proof.Machine.execBcdpub n s
  | .ctrlw en => Sys2Proof.Machine.execCtrlw en s

end Sys2Proof.Machine
end

