-- ==== Sys2Proof/Machine/Step.lean ====
section
/-! DEFINITION. One step: take the next event word, decode it, apply its meaning or refuse it (00_scope.md R12,
30_encoding.md R71, 60_exceptions.md R172). -/

namespace Sys2Proof.Machine

/-- One step of the block. With no event to deliver it holds its state (60_exceptions.md R185; log 2). -/
def step (s : State) : Host.Outcome State Fault Refusal :=
  match s.takeEvent with
  | none => .next s.idle
  | some (w, t) =>
    match decode t.params w with
    | .ok i => exec i t
    | .error r => refuseWord r t

/-- The state in which the environment delivers the event word `w` next (log 2). -/
def State.withFetchWord (s : State) (nbits w : Nat) : State :=
  s.awaiting (BitVec.ofNat 32 (w % 2 ^ nbits) :: s.input)

end Sys2Proof.Machine
end

