-- ==== Sys2Proof/Machine/Script.lean ====
section
/-! DEFINITION. The text form of event scripts (30_encoding.md R75) and its pseudo-events (R76), as far as event words.
Text is a list of characters. A script that is not of the form R75 and R76 give has no words (`none`; log 7). -/

namespace Sys2Proof.Machine.Script

/-- One line of a script: an event with its operand (0 where it takes none), or a pseudo-event (30_encoding.md R75, R76). -/
inductive Line where
  | event (c : EventCode) (operand : Nat)
  | rxs (bytes : List Byte)
  | pkt (d1 d2 : Nat)
  | echo
  | press (level : Nat)
  | bounce (k level : Nat)
  | samplePwm (raw : Nat)
deriving DecidableEq, Repr

/-- The events a line stands for, in order (30_encoding.md R76). -/
def expand : Line → List (EventCode × Nat)
  | .event c v => [(c, v)]
  | .rxs bytes => bytes.map fun b => (.rxb, b.toNat)
  | .pkt d1 d2 => [(.rxb, 0x73), (.rxb, 0x30 + d1), (.rxb, 0x30 + d2), (.rxb, 0x74)]
  | .echo => [(.arm, 0), (.txrdy, 0), (.txrdy, 0), (.txrdy, 0)]
  | .press l => [(.edge, 0), (.debexp, l)]
  | .bounce k l => List.replicate k (.edge, 0) ++ [(.debexp, l)]
  | .samplePwm r => [(.conv, r), (.pwmpb, 0)]

/-- The word of an event line, `code * 2^28 + operand` (30_encoding.md R75). DESIGN CHOICE (log 7): R75 bounds no operand.
The sum is taken as its table writes it, so an operand of `2^28` or more carries into OP and may spell another event
(`RXB 0x10000000` is the word of TXRDY); a sum that does not fit 32 bits is no word. -/
def lineWord (e : EventCode × Nat) : Option EventWord :=
  if (eventBits e.1).toNat * 2 ^ 28 + e.2 < 2 ^ 32 then
    some (BitVec.ofNat 32 ((eventBits e.1).toNat * 2 ^ 28 + e.2))
  else none

/-- The words of a list of events. -/
def wordsOf (l : List (EventCode × Nat)) : Option (List EventWord) := l.mapM lineWord

/-- The characters with a fixed byte value: `s`, `t` and the ten digits (30_encoding.md R75). -/
def charByte (c : Char) : Option Byte :=
  if c = 's' then some 0x73
  else if c = 't' then some 0x74
  else if 0x30 ≤ c.toNat ∧ c.toNat ≤ 0x39 then some (BitVec.ofNat 8 c.toNat)
  else none

/-- The value of a digit character in the given base; hexadecimal letters of either case (log 7). -/
def digitValue (base : Nat) (c : Char) : Option Nat :=
  let v :=
    if 0x30 ≤ c.toNat ∧ c.toNat ≤ 0x39 then some (c.toNat - 0x30)
    else if 0x41 ≤ c.toNat ∧ c.toNat ≤ 0x46 then some (c.toNat - 0x41 + 10)
    else if 0x61 ≤ c.toNat ∧ c.toNat ≤ 0x66 then some (c.toNat - 0x61 + 10)
    else none
  v.bind fun d => if d < base then some d else none

/-- The rest of a number, most significant digit first. -/
def digitsFrom (base acc : Nat) : List Char → Option Nat
  | [] => some acc
  | c :: cs => (digitValue base c).bind fun d => digitsFrom base (acc * base + d) cs

/-- A number of at least one digit. -/
def digits (base : Nat) : List Char → Option Nat
  | [] => none
  | c :: cs => digitsFrom base 0 (c :: cs)

/-- A numeric operand: decimal, `0x` hexadecimal or `0b` binary (30_encoding.md R75). -/
def number : List Char → Option Nat
  | '0' :: 'x' :: cs => digits 16 cs
  | '0' :: 'b' :: cs => digits 2 cs
  | cs => digits 10 cs

/-- The single quote. -/
def singleQuote : Char := Char.ofNat 0x27

/-- The double quote. -/
def doubleQuote : Char := Char.ofNat 0x22

/-- An RXB operand: a number, or a character in single quotes (30_encoding.md R75). -/
def byteOperand : List Char → Option Nat
  | [a, c, b] =>
    if a = singleQuote ∧ b = singleQuote then (charByte c).map BitVec.toNat else number [a, c, b]
  | cs => number cs

/-- The bytes of an RXS string up to its closing quote: fixed characters, or a backslash, `x` and two hexadecimal digits
(30_encoding.md R76). DESIGN CHOICE (log 7): R76 gives its `c1c2...cn` no lower bound on n, and the empty string is read as
a legal line with no words. -/
def stringBytes : List Char → Option (List Byte)
  | [] => none
  | [c] => if c = doubleQuote then some [] else none
  | '\\' :: 'x' :: h :: l :: cs =>
    (digits 16 [h, l]).bind fun v => (stringBytes cs).map fun bs => BitVec.ofNat 8 v :: bs
  | c :: cs => (charByte c).bind fun b => (stringBytes cs).map fun bs => b :: bs

/-- The pieces of a text between separators. -/
def pieces (sep : Char → Bool) : List Char → List (List Char)
  | [] => [[]]
  | c :: cs =>
    match pieces sep cs with
    | [] => [[c]]
    | g :: gs => if sep c then [] :: g :: gs else (c :: g) :: gs

/-- A line's tokens, its comment removed (30_encoding.md R75). -/
def tokens (line : List Char) : List (List Char) :=
  (pieces (fun c => c = ' ' || c = '\t') (line.takeWhile (· ≠ ';'))).filter (· ≠ [])

/-- The ten event codes with their mnemonics (30_encoding.md R72, R75). -/
def mnemonics : List (EventCode × List Char) :=
  [(.rxb, ['R', 'X', 'B']), (.txrdy, ['T', 'X', 'R', 'D', 'Y']), (.arm, ['A', 'R', 'M']),
   (.tick, ['T', 'I', 'C', 'K']), (.edge, ['E', 'D', 'G', 'E']), (.debexp, ['D', 'E', 'B', 'E', 'X', 'P']),
   (.conv, ['C', 'O', 'N', 'V']), (.pwmpb, ['P', 'W', 'M', 'P', 'B']), (.bcdpub, ['B', 'C', 'D', 'P', 'U', 'B']),
   (.ctrlw, ['C', 'T', 'R', 'L', 'W'])]

/-- The events that take no operand (30_encoding.md R75). -/
def takesNoOperand : EventCode → Bool
  | .txrdy => true
  | .arm => true
  | .tick => true
  | .edge => true
  | .pwmpb => true
  | .rxb => false
  | .debexp => false
  | .conv => false
  | .bcdpub => false
  | .ctrlw => false

/-- An event line: a mnemonic and the operand its event takes (30_encoding.md R75). -/
def eventLine (name : List Char) (args : List (List Char)) : Option Line :=
  (mnemonics.find? fun m => m.2 == name).bind fun m =>
    match args with
    | [] => if takesNoOperand m.1 then some (.event m.1 0) else none
    | [a] =>
      if takesNoOperand m.1 then none
      else if m.1 = .rxb then (byteOperand a).map (.event .rxb)
      else (number a).map (.event m.1)
    | _ => none

/-- The value of a token that is one digit character, as PKT takes it (30_encoding.md R76). -/
def digitToken : List Char → Option Nat
  | [c] => digitValue 10 c
  | _ => none

/-- A pseudo-event line (30_encoding.md R76); BOUNCE needs `k ≥ 1`. -/
def pseudoLine (name : List Char) (args : List (List Char)) : Option Line :=
  if name = ['R', 'X', 'S'] then
    match args with
    | [q :: cs] => if q = doubleQuote then (stringBytes cs).map .rxs else none
    | _ => none
  else if name = ['P', 'K', 'T'] then
    match args with
    | [a, b] => (digitToken a).bind fun d1 => (digitToken b).map fun d2 => .pkt d1 d2
    | _ => none
  else if name = ['E', 'C', 'H', 'O'] then
    if args = [] then some .echo else none
  else if name = ['P', 'R', 'E', 'S', 'S'] then
    match args with
    | [a] => (number a).map .press
    | _ => none
  else if name = ['B', 'O', 'U', 'N', 'C', 'E'] then
    match args with
    | [a, b] => (number a).bind fun k => (number b).bind fun l => if 1 ≤ k then some (.bounce k l) else none
    | _ => none
  else if name = ['S', 'A', 'M', 'P', 'L', 'E', 'P', 'W', 'M'] then
    match args with
    | [a] => (number a).map .samplePwm
    | _ => none
  else none

/-- The words of one line; a line without tokens has none (30_encoding.md R75, R76). -/
def lineWords (line : List Char) : Option (List EventWord) :=
  match tokens line with
  | [] => some []
  | name :: args => ((eventLine name args).or (pseudoLine name args)).bind fun l => wordsOf (expand l)

/-- The event words of a script, one line after the other (30_encoding.md R75). -/
def scriptWords (text : List Char) : Option (List EventWord) :=
  ((pieces (fun c => c = '\n') text).mapM lineWords).map List.flatten

end Sys2Proof.Machine.Script
end

