-- ==== Sys2Proof/Machine/Environment.lean ====
section
/-! DEFINITION. The environment's side of a delivery: which pending event may be delivered next under EVENT_PRIORITY
(60_exceptions.md R175), and the duties of R186 that can be read off one delivery. `step` enforces neither: State.input
may hold any words (R187). -/

namespace Sys2Proof.Machine

/-- The place of a code in the fixed order, 0 highest; every code is equal under `Unconstrained` (60_exceptions.md R175;
log 9). -/
def priorityRank : EventPriority → EventCode → Nat
  | .unconstrained, _ => 0
  | .fixed order, c => order.idxOf c

/-- The environment may deliver `i` next out of the simultaneously pending events: it is pending, and none pending stands
higher (60_exceptions.md R175). -/
def maySelect (pr : EventPriority) (pending : List Instr) (i : Instr) : Bool :=
  pending.contains i && pending.all fun j => decide (priorityRank pr (codeOf i) ≤ priorityRank pr (codeOf j))

/-- The duties of 60_exceptions.md R186 that one delivery can break: no TXRDY in an active echo and no echo-starting ARM
unless the transmit data register can take a byte (E3, E4), and a conversion result below `2 ^ ADC_RES` (E8; log 8). -/
def mayDeliver (transmitterFree : Bool) (i : Instr) (s : State) : Bool :=
  match i with
  | .txrdy => s.txState == .idle || transmitterFree
  | .arm => !s.canStartEcho || transmitterFree
  | .conv raw => decide (raw.toNat < s.params.rawFullScale)
  | .rxb _ => true
  | .tick => true
  | .edge => true
  | .debexp _ => true
  | .pwmpb => true
  | .bcdpub _ => true
  | .ctrlw _ => true

end Sys2Proof.Machine
end

