-- ==== Sys2Proof/Machine/Pins.lean ====
section
/-! DEFINITION. The outputs at the pins: the polarity mapping and what each output action drives (10_state.md R35 to R37),
and the status port, through which every element is read without side effect (R36). -/

namespace Sys2Proof.Machine

/-- The display's pin levels. -/
structure DisplayPins where
  seg : Pattern
  sel1 : Bool
  sel2 : Bool
deriving DecidableEq, Repr

/-- `seg_pin[i] = SEG[i] xor SEG_ACTIVE_LOW` (10_state.md R37). -/
def segLevels (p : Params) (v : Pattern) : Pattern := if p.segActiveLow then ~~~v else v

/-- `sel_pin[k] = SELk xor SEL_ACTIVE_LOW` (10_state.md R37). -/
def selLevel (p : Params) (v : Bool) : Bool := v ^^ p.selActiveLow

/-- The pin levels the display latches drive (10_state.md R36, R37). -/
def State.displayPins (s : State) : DisplayPins where
  seg := segLevels s.params s.seg
  sel1 := selLevel s.params s.sel1
  sel2 := selLevel s.params s.sel2

/-- The indicator pin and the compare value the PWM comparator uses, driven continuously (10_state.md R36). -/
def State.otherPins (s : State) : Bool × BitVec 16 := (s.indicator, s.cmpActive)

/-- What one output action drives on the display pins (10_state.md R35, R37). -/
def drive (p : Params) (d : DisplayPins) : Action → DisplayPins
  | .txd _ => d
  | .desel .one => { d with sel1 := selLevel p false }
  | .desel .two => { d with sel2 := selLevel p false }
  | .segw v => { d with seg := segLevels p v }
  | .sela .one => { d with sel1 := selLevel p true }
  | .sela .two => { d with sel2 := selLevel p true }
  | .ostart => d
  | .adcgo => d

/-- A whole output list, applied in list order (10_state.md R35). -/
def driveAll (p : Params) (d : DisplayPins) (l : List Action) : DisplayPins := l.foldl (drive p) d

/-- The elements of the 10_state.md R20 table. -/
inductive Element where
  | rxState | win0 | win1 | dig1 | dig2 | pktFlag | txState | muxState | sel1 | sel2 | seg
  | debState | indicator | sample | cmpShadow | cmpActive | ctrl
deriving DecidableEq, Repr

/-- The width of each element (10_state.md R20). -/
def Element.width : Element → Nat
  | .rxState => 2
  | .win0 => 8
  | .win1 => 8
  | .dig1 => 8
  | .dig2 => 8
  | .pktFlag => 1
  | .txState => 2
  | .muxState => 1
  | .sel1 => 1
  | .sel2 => 1
  | .seg => 7
  | .debState => 1
  | .indicator => 1
  | .sample => 12
  | .cmpShadow => 16
  | .cmpActive => 16
  | .ctrl => 5

/-- The encoding of `RX_STATE` (10_state.md R20). -/
def RxState.encoding : RxState → Nat
  | .idle => 0
  | .gotStart => 1
  | .gotDigit1 => 2
  | .gotDigit2 => 3

/-- The encoding of `TX_STATE` (10_state.md R20). -/
def TxState.encoding : TxState → Nat
  | .idle => 0
  | .sendDigit1 => 1
  | .sendDigit2 => 2
  | .sendEnd => 3

/-- The encoding of `MUX_STATE` (10_state.md R20). -/
def MuxState.encoding : MuxState → Nat
  | .showDigit1 => 0
  | .showDigit2 => 1

/-- The encoding of `DEB_STATE` (10_state.md R20). -/
def DebState.encoding : DebState → Nat
  | .armed => 0
  | .settling => 1

/-- A status read: the element's value, in the encoding of 10_state.md R20 (R36). -/
def State.status (s : State) : Element → Nat
  | .rxState => s.rxState.encoding
  | .win0 => s.win0.toNat
  | .win1 => s.win1.toNat
  | .dig1 => s.dig1.toNat
  | .dig2 => s.dig2.toNat
  | .pktFlag => s.pktFlag.toNat
  | .txState => s.txState.encoding
  | .muxState => s.muxState.encoding
  | .sel1 => s.sel1.toNat
  | .sel2 => s.sel2.toNat
  | .seg => s.seg.toNat
  | .debState => s.debState.encoding
  | .indicator => s.indicator.toNat
  | .sample => s.sample.toNat
  | .cmpShadow => s.cmpShadow.toNat
  | .cmpActive => s.cmpActive.toNat
  | .ctrl => s.ctrl.toNat

end Sys2Proof.Machine
end

