-- ==== Sys2Proof/Safety.lean ====
section
/-! DEFINITION. The words claims are stated in: the state and the outputs along a run of events, the invariants of
10_state.md R34, what a publication is (42_framer_rx.md R123), and which runs keep a condition all along. -/

namespace Sys2Proof.Machine

/-- The state after one event. Every event answers a next state, so the other two arms are never taken
(Obligations.EveryEventAnswersNext). -/
def after (i : Instr) (s : State) : State :=
  match exec i s with
  | .next t => t
  | .fault _ => s
  | .refused _ => s

/-- The state after a sequence of events (00_scope.md R12). -/
def runTo : List Instr → State → State
  | [], s => s
  | i :: is, s => runTo is (after i s)

/-- The output list of each step of a sequence of events (10_state.md R35). -/
def outputs : List Instr → State → List (List Action)
  | [], _ => []
  | i :: is, s => (after i s).outs :: outputs is (after i s)

/-- Every event of the sequence meets the condition, in the state it is delivered in. -/
def along (cond : Instr → State → Bool) : List Instr → State → Bool
  | [], _ => true
  | i :: is, s => cond i s && along cond is (after i s)

/-- The invariants 1 to 4 of 10_state.md R34. -/
abbrev StateInv (s : State) : Prop :=
  ¬(s.sel1 = true ∧ s.sel2 = true) ∧
  s.cmpShadow.toNat < s.params.pwmPeriod ∧ s.cmpActive.toNat < s.params.pwmPeriod ∧
  s.sample.toNat < s.params.rawFullScale ∧
  ¬(s.edgeIe = true ∧ s.ostRun = true)

/-- The display before its first ungated TICK (10_state.md R34, invariant 5; R26, R27). -/
abbrev Dark (s : State) : Prop := s.muxState = .showDigit2 ∧ s.sel1 = false ∧ s.sel2 = false

/-- The display after an ungated TICK: the digit that MUX_STATE names is selected, the other is not (41_display_mux.md R111). -/
abbrev Lit (s : State) : Prop :=
  (s.muxState = .showDigit1 ∧ s.sel1 = true ∧ s.sel2 = false) ∨
  (s.muxState = .showDigit2 ∧ s.sel1 = false ∧ s.sel2 = true)

/-- The event is not a TICK that acts. -/
def noTick (i : Instr) (s : State) : Bool := !(i == .tick && s.muxEn)

/-- The event is not a TXRDY that acts. -/
def noTxrdy (i : Instr) (s : State) : Bool := !(i == .txrdy && s.txEn)

/-- The event is not an ARM that starts an echo (43_framer_tx.md R130; R132, condition 1). -/
def noEchoStart (i : Instr) (s : State) : Bool := !(i == .arm && s.canStartEcho)

/-- The event is not a PWMPB. -/
def noBoundary (i : Instr) (_ : State) : Bool := !(i == .pwmpb)

/-- The event is not a CTRLW. -/
def noControl (i : Instr) (_ : State) : Bool := !(codeOf i == .ctrlw)

/-- The event is not an expiry that acts. -/
def noExpiry (i : Instr) (s : State) : Bool := !(codeOf i == .debexp && s.debEn)

/-- The event is not an acting RXB in the receive state `r` (43_framer_tx.md R132, conditions 2 and 3). -/
def noByteIn (r : RxState) (i : Instr) (s : State) : Bool := !(codeOf i == .rxb && s.rxEn && s.rxState == r)

/-- The bytes a list of actions sends, in order (10_state.md R35). -/
def txBytes (l : List Action) : List Byte :=
  l.filterMap fun a =>
    match a with
    | .txd b => some b
    | _ => none

/-- The step writes `PKT_FLAG <- 1`: seen from the flag at 0, it is 1 after (42_framer_rx.md R123). -/
def publishes (i : Instr) (s : State) : Bool := (after i { s with pktFlag := false }).pktFlag

/-- The candidate pairs a run publishes, in order. -/
def publications : List Instr → State → List (Byte × Byte)
  | [], _ => []
  | i :: is, s =>
    if publishes i s then (s.win0, s.win1) :: publications is (after i s) else publications is (after i s)

/-- The bytes of the RXBs delivered while `RX_EN = 1`, starting from the enables `en` (42_framer_rx.md R123). -/
def ungatedBytes : BitVec 5 → List Instr → List Byte
  | _, [] => []
  | en, i :: is =>
    match i with
    | .rxb b => if en.getLsbD 0 then b :: ungatedBytes en is else ungatedBytes en is
    | .ctrlw e => ungatedBytes e is
    | _ => ungatedBytes en is

/-- The frames of a byte sequence read from Idle: a 0x73, any two bytes, then 0x74; a fourth byte that is not 0x74 is
dropped with its frame, and a byte that is not 0x73 outside a frame is dropped alone (42_framer_rx.md R123). -/
def frames : List Byte → List (Byte × Byte)
  | b0 :: b1 :: b2 :: b3 :: rest =>
    if b0 = 0x73 then
      if b3 = 0x74 then (b1, b2) :: frames rest else frames rest
    else frames (b1 :: b2 :: b3 :: rest)
  | _ => []

end Sys2Proof.Machine
end

