-- ==== Sys2Proof/Certificates/Slice0/Obligations.lean ====
section
/-! DEFINITION. The statements for the provers, in the order of OBLIGATIONS.json. -/

open Sys2Proof Sys2Proof.Machine

/-- 70_reset_and_hazards.md R200, R201: every element at its reset value, no action emitted, and the pins the latches
drive at reset. The values are the spec's decisions D13, D14 and D17. -/
def Obligations.ResetElementValues : Prop :=
  ∀ p : Params,
    (State.resetWith p).rxState = .idle ∧ (State.resetWith p).win0 = 0x00 ∧ (State.resetWith p).win1 = 0x00 ∧
    (State.resetWith p).dig1 = 0 ∧ (State.resetWith p).dig2 = 0 ∧ (State.resetWith p).pktFlag = false ∧
    (State.resetWith p).txState = .idle ∧ (State.resetWith p).muxState = .showDigit2 ∧
    (State.resetWith p).sel1 = false ∧ (State.resetWith p).sel2 = false ∧ (State.resetWith p).seg = 0 ∧
    (State.resetWith p).debState = .armed ∧ (State.resetWith p).indicator = false ∧
    (State.resetWith p).sample = 0 ∧ (State.resetWith p).cmpShadow = 0 ∧ (State.resetWith p).cmpActive = 0 ∧
    (State.resetWith p).ctrl = 0b11111 ∧ (State.resetWith p).outs = [] ∧
    (State.resetWith p).displayPins = ⟨segLevels p 0, selLevel p false, selLevel p false⟩ ∧
    (State.resetWith p).otherPins = (false, 0)

/-- 10_state.md R34, invariants 1 to 4 ("hold in every state reachable from reset", the spec's own inference), at reset
under every parameter choice. -/
def Obligations.ResetSatisfiesInvariants : Prop := ∀ p : Params, StateInv (State.resetWith p)

/-- 10_state.md R34, invariants 1 to 4 (the spec's own inference): every step keeps them, from every state. -/
def Obligations.StepKeepsInvariants : Prop := ∀ s t : State, StateInv s → step s = .next t → StateInv t

/-- 10_state.md R34, invariant 5 (the spec's own inference): along any events from reset, both select lines are 0 until
the first ungated TICK, and exactly one is 1 after it. -/
def Obligations.SelectLinesFollowFirstTick : Prop :=
  ∀ (p : Params) (is : List Instr),
    (along noTick is (State.resetWith p) = true →
      (runTo is (State.resetWith p)).sel1 = false ∧ (runTo is (State.resetWith p)).sel2 = false) ∧
    (along noTick is (State.resetWith p) = false →
      ((runTo is (State.resetWith p)).sel1 ^^ (runTo is (State.resetWith p)).sel2) = true)

/-- 41_display_mux.md section 2 with 10_state.md section 7: the display stays dark or lit in step with MUX_STATE, a lit
display stays lit, and both hold of every step. -/
def Obligations.StepKeepsDisplayShape : Prop :=
  ∀ s t : State, step s = .next t → (Dark s ∨ Lit s → Dark t ∨ Lit t) ∧ (Lit s → Lit t)

/-- 30_encoding.md section 2: decoding the word of a well-formed event gives the event back, every operand at every value. -/
def Obligations.DecodeOfEncode : Prop :=
  ∀ (p : Params) (i : Instr), wellFormed p i = true → decode p (encode i) = .ok i

/-- 30_encoding.md section 2: a word that decodes is the word of the event it decodes to, and that event is well formed;
no bit of a word is ignored. -/
def Obligations.EncodeOfDecode : Prop :=
  ∀ (p : Params) (w : EventWord) (i : Instr), decode p w = .ok i → encode i = w ∧ wellFormed p i = true

/-- 30_encoding.md R72: each event is exactly its match under its mask, CONV with its extra test, each operand its field;
the reserved codes are no event. -/
def Obligations.EventsByMatchAndMask : Prop :=
  ∀ (p : Params) (w : EventWord),
    (∀ b, decode p w = .ok (.rxb b) ↔ w &&& 0xFFFFFF00 = 0x10000000 ∧ b = w.extractLsb' 0 8) ∧
    (decode p w = .ok .txrdy ↔ w &&& 0xFFFFFFFF = 0x20000000) ∧
    (decode p w = .ok .arm ↔ w &&& 0xFFFFFFFF = 0x30000000) ∧
    (decode p w = .ok .tick ↔ w &&& 0xFFFFFFFF = 0x40000000) ∧
    (decode p w = .ok .edge ↔ w &&& 0xFFFFFFFF = 0x50000000) ∧
    (∀ l, decode p w = .ok (.debexp l) ↔ w &&& 0xFFFFFFFE = 0x60000000 ∧ l = w.extractLsb' 0 1) ∧
    (∀ r, decode p w = .ok (.conv r) ↔
      w &&& 0xFFFFF000 = 0x70000000 ∧ r = w.extractLsb' 0 12 ∧ r.toNat < 2 ^ p.adcRes.bits) ∧
    (decode p w = .ok .pwmpb ↔ w &&& 0xFFFFFFFF = 0x80000000) ∧
    (∀ n, decode p w = .ok (.bcdpub n) ↔ w &&& 0xFFFF0000 = 0x90000000 ∧ n = w.extractLsb' 0 16) ∧
    (∀ e, decode p w = .ok (.ctrlw e) ↔ w &&& 0xFFFFFFE0 = 0xA0000000 ∧ e = w.extractLsb' 0 5) ∧
    (w &&& 0xF0000000 = 0x00000000 ∨ w &&& 0xF0000000 = 0xB0000000 ∨ w &&& 0xF0000000 = 0xC0000000 ∨
      w &&& 0xF0000000 = 0xD0000000 ∨ w &&& 0xF0000000 = 0xE0000000 ∨ w &&& 0xF0000000 = 0xF0000000 →
      ∀ i, decode p w ≠ .ok i)

/-- 30_encoding.md sections 1, 3 and 4 (R71, R73, R74): RSV is tested first, then the code, then the payload rule of the code; what passes is
the event with the operands of R73. The last clause is the model's choice, log 3 (DEDUCED: a refused word ends the step in a
next state; DESIGN CHOICE: the mark's form): the step that meets a failing word drops it and records the first reason. -/
def Obligations.DecodeTestsInOrder : Prop :=
  ∀ (p : Params) (w : EventWord),
    (w.extractLsb' 16 12 ≠ 0 → decode p w = .error .reservedBitsSet) ∧
    (w.extractLsb' 16 12 = 0 →
      ((w.extractLsb' 28 4).toNat = 0 ∨ 10 < (w.extractLsb' 28 4).toNat → decode p w = .error .reservedOpcode) ∧
      ((w.extractLsb' 28 4).toNat = 1 → decode p w =
        if w.extractLsb' 8 8 = 0 then .ok (.rxb (w.extractLsb' 0 8)) else .error .payloadOutOfRange) ∧
      ((w.extractLsb' 28 4).toNat = 2 → decode p w =
        if w.extractLsb' 0 16 = 0 then .ok .txrdy else .error .payloadOutOfRange) ∧
      ((w.extractLsb' 28 4).toNat = 3 → decode p w =
        if w.extractLsb' 0 16 = 0 then .ok .arm else .error .payloadOutOfRange) ∧
      ((w.extractLsb' 28 4).toNat = 4 → decode p w =
        if w.extractLsb' 0 16 = 0 then .ok .tick else .error .payloadOutOfRange) ∧
      ((w.extractLsb' 28 4).toNat = 5 → decode p w =
        if w.extractLsb' 0 16 = 0 then .ok .edge else .error .payloadOutOfRange) ∧
      ((w.extractLsb' 28 4).toNat = 6 → decode p w =
        if w.extractLsb' 1 15 = 0 then .ok (.debexp (w.extractLsb' 0 1)) else .error .payloadOutOfRange) ∧
      ((w.extractLsb' 28 4).toNat = 7 → decode p w =
        if w.extractLsb' 12 4 = 0 ∧ (w.extractLsb' 0 12).toNat < 2 ^ p.adcRes.bits
        then .ok (.conv (w.extractLsb' 0 12)) else .error .payloadOutOfRange) ∧
      ((w.extractLsb' 28 4).toNat = 8 → decode p w =
        if w.extractLsb' 0 16 = 0 then .ok .pwmpb else .error .payloadOutOfRange) ∧
      ((w.extractLsb' 28 4).toNat = 9 → decode p w = .ok (.bcdpub (w.extractLsb' 0 16))) ∧
      ((w.extractLsb' 28 4).toNat = 10 → decode p w =
        if w.extractLsb' 5 11 = 0 then .ok (.ctrlw (w.extractLsb' 0 5)) else .error .payloadOutOfRange)) ∧
    (∀ (s : State) (rest : List EventWord) (r : Invalid), s.params = p → s.input = w :: rest →
      decode p w = .error r →
      step s = .next { s with input := rest, outs := [], mark := s.mark.record r })

/-- 30_encoding.md section 2: one word of each event, written out from its row, is that event; a sanity statement. -/
def Obligations.SampleWordsDecode : Prop :=
  decode paramsDefault 0x10000073 = .ok (.rxb 0x73) ∧ decode paramsDefault 0x20000000 = .ok .txrdy ∧
  decode paramsDefault 0x30000000 = .ok .arm ∧ decode paramsDefault 0x40000000 = .ok .tick ∧
  decode paramsDefault 0x50000000 = .ok .edge ∧ decode paramsDefault 0x60000001 = .ok (.debexp 1) ∧
  decode paramsDefault 0x70000200 = .ok (.conv 512) ∧ decode paramsDefault 0x80000000 = .ok .pwmpb ∧
  decode paramsDefault 0x9000002A = .ok (.bcdpub 42) ∧ decode paramsDefault 0xA000001E = .ok (.ctrlw 0b11110)

/-- 60_exceptions.md section 1 (R172): a refused step changes no element and emits nothing, and records its reason; nothing
ever clears the mark. The model's choice, log 3: that the refused step answers a next state (DEDUCED), and that the mark
has one bit per reason, a second reason standing beside the first (DESIGN CHOICE). -/
def Obligations.RefusalIsStickyAndInert : Prop :=
  (∀ (s : State) (w : EventWord) (rest : List EventWord) (r : Invalid),
    s.input = w :: rest → decode s.params w = .error r →
    step s = .next { s with
      input := rest
      outs := []
      mark :=
        { reservedBitsSet := s.mark.reservedBitsSet || r == .reservedBitsSet
          reservedOpcode := s.mark.reservedOpcode || r == .reservedOpcode
          payloadOutOfRange := s.mark.payloadOutOfRange || r == .payloadOutOfRange } }) ∧
  (∀ s t : State, step s = .next t →
    (s.mark.reservedBitsSet = true → t.mark.reservedBitsSet = true) ∧
    (s.mark.reservedOpcode = true → t.mark.reservedOpcode = true) ∧
    (s.mark.payloadOutOfRange = true → t.mark.payloadOutOfRange = true))

/-- 00_scope.md section 5 and 30_encoding.md section 1: when the next word decodes to an event, the step is exec of that
event in the state with that word delivered. -/
def Obligations.StepRunsDecodedEvent : Prop :=
  ∀ (s : State) (w : EventWord) (rest : List EventWord) (i : Instr),
    s.input = w :: rest → decode s.params w = .ok i → step s = exec i { s with input := rest }

/-- 60_exceptions.md section 7: between events the block holds its state and emits nothing. That a Lean step without an
event is such a pause is the model's choice (log 2). -/
def Obligations.StepWithoutEventHolds : Prop :=
  ∀ s : State, s.input = [] → step s = .next { s with outs := [] }

/-- 60_exceptions.md section 1 (R170): a step that meets a word ends in the next state of its event or in a refusal of the
word, and in nothing else; there is no fault. That a refusal is itself a next state with the reason recorded is the
model's choice, log 3 (DEDUCED; the mark's form DESIGN CHOICE). -/
def Obligations.StepEndsInOneOfTwoWays : Prop :=
  ∀ (s : State) (w : EventWord) (rest : List EventWord), s.input = w :: rest →
    (∃ i t, decode s.params w = .ok i ∧ exec i { s with input := rest } = .next t ∧ step s = .next t) ∨
    (∃ r, decode s.params w = .error r ∧
      step s = .next { s with input := rest, outs := [], mark := s.mark.record r })

/-- 60_exceptions.md section 1: every event, in every state, answers a next state. An ill-formed CONV is answered as the
refusal of its word (log 5). -/
def Obligations.EveryEventAnswersNext : Prop := ∀ (i : Instr) (s : State), ∃ t, exec i s = .next t

/-- 00_scope.md R8: no event and no step changes a parameter. -/
def Obligations.ParametersNeverChange : Prop :=
  (∀ (i : Instr) (s t : State), exec i s = .next t → t.params = s.params) ∧
  (∀ s t : State, step s = .next t → t.params = s.params)

/-- 00_scope.md section 1 ("one event per step"): a step takes exactly the next word from what the environment has still
to deliver, and no event changes the rest (log 2). -/
def Obligations.OneWordPerStep : Prop := ∀ s t : State, step s = .next t → t.input = s.input.tail

/-- 46_control.md R160: with its unit's bit at 0 an event is accepted, changes nothing and emits nothing; ARM, BCDPUB,
PWMPB and CTRLW do the same whatever CTRL holds. -/
def Obligations.GatingMap : Prop :=
  ∀ s : State,
    (s.ctrl.getLsbD 0 = false → ∀ b, exec (.rxb b) s = .next { s with outs := [] }) ∧
    (s.ctrl.getLsbD 1 = false → exec .txrdy s = .next { s with outs := [] }) ∧
    (s.ctrl.getLsbD 2 = false → exec .tick s = .next { s with outs := [] }) ∧
    (s.ctrl.getLsbD 3 = false → exec .edge s = .next { s with outs := [] }) ∧
    (s.ctrl.getLsbD 3 = false → ∀ l, exec (.debexp l) s = .next { s with outs := [] }) ∧
    (s.ctrl.getLsbD 4 = false → ∀ r, r.toNat < 2 ^ s.params.adcRes.bits →
      exec (.conv r) s = .next { s with outs := [] }) ∧
    (∀ (c : BitVec 5) (t : State), exec .arm s = .next t → exec .arm { s with ctrl := c } = .next { t with ctrl := c }) ∧
    (∀ (n : BitVec 16) (c : BitVec 5) (t : State), exec (.bcdpub n) s = .next t →
      exec (.bcdpub n) { s with ctrl := c } = .next { t with ctrl := c }) ∧
    (∀ (c : BitVec 5) (t : State), exec .pwmpb s = .next t → exec .pwmpb { s with ctrl := c } = .next { t with ctrl := c }) ∧
    (∀ e c : BitVec 5, exec (.ctrlw e) { s with ctrl := c } = exec (.ctrlw e) s)

/-- 42_framer_rx.md R121: the transition table row by row, with the gate, the word, and everything each row leaves alone. -/
def Obligations.RxbTransitions : Prop :=
  ∀ (s : State) (b : Byte),
    encode (.rxb b) = 0x10000000 + b.setWidth 32 ∧
    (s.ctrl.getLsbD 0 = false → exec (.rxb b) s = .next { s with outs := [] }) ∧
    (s.ctrl.getLsbD 0 = true →
      (s.rxState = .idle → b = 0x73 → exec (.rxb b) s = .next { s with rxState := .gotStart, outs := [] }) ∧
      (s.rxState = .idle → b ≠ 0x73 → exec (.rxb b) s = .next { s with outs := [] }) ∧
      (s.rxState = .gotStart → exec (.rxb b) s = .next { s with win0 := b, rxState := .gotDigit1, outs := [] }) ∧
      (s.rxState = .gotDigit1 → exec (.rxb b) s = .next { s with win1 := b, rxState := .gotDigit2, outs := [] }) ∧
      (s.rxState = .gotDigit2 → b = 0x74 → exec (.rxb b) s = .next { s with
        dig1 := s.win0 - 0x30
        dig2 := s.win1 - 0x30
        pktFlag := true
        rxState := .idle
        outs := [] }) ∧
      (s.rxState = .gotDigit2 → b ≠ 0x74 → exec (.rxb b) s = .next { s with rxState := .idle, outs := [] }))

/-- 42_framer_rx.md R122: `dec` is the difference to 0x30 modulo 256, a digit for the ten ASCII digits, with no bounds
check on any other byte. -/
def Obligations.DigitDecodingWraps : Prop :=
  (∀ b : Byte, ((digitOf b).toNat : Int) = ((b.toNat : Int) - 0x30) % 256) ∧
  (∀ b : Byte, 0x30 ≤ b.toNat → b.toNat ≤ 0x39 → (digitOf b).toNat = b.toNat - 0x30 ∧ (digitOf b).toNat ≤ 9) ∧
  digitOf 0x41 = 17 ∧ digitOf 0x20 = 240

/-- 43_framer_tx.md R130: ARM starts the echo when the flag is up and no echo is in progress, and does nothing otherwise,
whatever CTRL holds. -/
def Obligations.ArmStartsEcho : Prop :=
  encode .arm = 0x30000000 ∧
  ∀ s : State,
    (s.pktFlag = true → s.txState = .idle → exec .arm s =
      .next { s with pktFlag := false, txState := .sendDigit1, outs := [.txd 0x73] }) ∧
    (s.pktFlag = false ∨ s.txState ≠ .idle → exec .arm s = .next { s with outs := [] })

/-- 43_framer_tx.md R131: the byte each ungated TXRDY sends and the state it leaves; ignored in Idle and when gated. -/
def Obligations.TxrdySendsNextByte : Prop :=
  encode .txrdy = 0x20000000 ∧
  ∀ s : State,
    (s.ctrl.getLsbD 1 = false → exec .txrdy s = .next { s with outs := [] }) ∧
    (s.ctrl.getLsbD 1 = true →
      (s.txState = .idle → exec .txrdy s = .next { s with outs := [] }) ∧
      (s.txState = .sendDigit1 → exec .txrdy s = .next { s with txState := .sendDigit2, outs := [.txd s.win0] }) ∧
      (s.txState = .sendDigit2 → exec .txrdy s = .next { s with txState := .sendEnd, outs := [.txd s.win1] }) ∧
      (s.txState = .sendEnd → exec .txrdy s = .next { s with txState := .idle, outs := [.txd 0x74] }))

/-- 41_display_mux.md R110: the table's entry for 0 to 9, a free pattern above 9 (whatever the draw gives), and the
default table. -/
def Obligations.SegmentLookup : Prop :=
  (∀ (t : SegTable) (k : Nat),
    segPattern t k 0 = (t.d0, k) ∧ segPattern t k 1 = (t.d1, k) ∧ segPattern t k 2 = (t.d2, k) ∧
    segPattern t k 3 = (t.d3, k) ∧ segPattern t k 4 = (t.d4, k) ∧ segPattern t k 5 = (t.d5, k) ∧
    segPattern t k 6 = (t.d6, k) ∧ segPattern t k 7 = (t.d7, k) ∧ segPattern t k 8 = (t.d8, k) ∧
    segPattern t k 9 = (t.d9, k) ∧
    ∀ d : Byte, 9 < d.toNat → segPattern t k d = (Config.draw7 k, k + 1)) ∧
  segTableDefault = ⟨0x3F, 0x06, 0x5B, 0x4F, 0x66, 0x6D, 0x7D, 0x07, 0x7F, 0x6F⟩

/-- 41_display_mux.md R111: both branches of TICK with their actions in order, the latches, and the gate. The count of
draws is the model's own (log 4). -/
def Obligations.TickSwitchesDigit : Prop :=
  encode .tick = 0x40000000 ∧
  ∀ s : State,
    (s.ctrl.getLsbD 2 = false → exec .tick s = .next { s with outs := [] }) ∧
    (s.ctrl.getLsbD 2 = true →
      (s.muxState = .showDigit2 → ∀ q k, segPattern s.params.segTable s.drawCount s.dig1 = (q, k) →
        exec .tick s = .next { s with
          sel2 := false
          seg := q
          sel1 := true
          muxState := .showDigit1
          outs := [.desel .two, .segw q, .sela .one]
          drawCount := k }) ∧
      (s.muxState = .showDigit1 → ∀ q k, segPattern s.params.segTable s.drawCount s.dig2 = (q, k) →
        exec .tick s = .next { s with
          sel1 := false
          seg := q
          sel2 := true
          muxState := .showDigit2
          outs := [.desel .one, .segw q, .sela .two]
          drawCount := k }))

/-- 44_debouncer.md R140: EDGE starts the timer when Armed, and is ignored when Settling or gated. -/
def Obligations.EdgeStartsTimer : Prop :=
  encode .edge = 0x50000000 ∧
  ∀ s : State,
    (s.ctrl.getLsbD 3 = false → exec .edge s = .next { s with outs := [] }) ∧
    (s.ctrl.getLsbD 3 = true →
      (s.debState = .armed → exec .edge s = .next { s with debState := .settling, outs := [.ostart] }) ∧
      (s.debState = .settling → exec .edge s = .next { s with outs := [] }))

/-- 44_debouncer.md R141, R142: level 0 is a confirmed press and does the configured action, level 1 does none, both
re-arm; an expiry while Armed or gated is ignored. -/
def Obligations.ExpiryActsAndRearms : Prop :=
  ∀ (s : State) (level : BitVec 1),
    encode (.debexp level) = 0x60000000 + level.setWidth 32 ∧
    (s.ctrl.getLsbD 3 = false → exec (.debexp level) s = .next { s with outs := [] }) ∧
    (s.ctrl.getLsbD 3 = true →
      (s.debState = .armed → exec (.debexp level) s = .next { s with outs := [] }) ∧
      (s.debState = .settling → level = 0 → s.params.debounceAction = .triggerSample →
        exec (.debexp level) s = .next { s with debState := .armed, outs := [.adcgo] }) ∧
      (s.debState = .settling → level = 0 → s.params.debounceAction = .toggleIndicator →
        exec (.debexp level) s = .next { s with indicator := !s.indicator, debState := .armed, outs := [] }) ∧
      (s.debState = .settling → level = 1 →
        exec (.debexp level) s = .next { s with debState := .armed, outs := [] }))

/-- 45_sampler_pwm.md R150, R151: CONV writes the sample and the exact duty, which fits the 16 bits, and nothing else;
it is ignored when gated, and a sample out of range has no event word. -/
def Obligations.ConvWritesSampleAndShadow : Prop :=
  ∀ (s : State) (raw : BitVec 12),
    (raw.toNat < 2 ^ s.params.adcRes.bits →
      encode (.conv raw) = 0x70000000 + raw.setWidth 32 ∧
      (s.ctrl.getLsbD 4 = false → exec (.conv raw) s = .next { s with outs := [] }) ∧
      (s.ctrl.getLsbD 4 = true → ∃ d : BitVec 16,
        d.toNat = raw.toNat * s.params.pwmPeriod / 2 ^ s.params.adcRes.bits ∧ d.toNat < s.params.pwmPeriod ∧
        exec (.conv raw) s = .next { s with sample := raw, cmpShadow := d, outs := [] })) ∧
    (2 ^ s.params.adcRes.bits ≤ raw.toNat →
      decode s.params (0x70000000 + raw.setWidth 32) = .error .payloadOutOfRange)

/-- 45_sampler_pwm.md section 4 ("duty is monotonically non-decreasing", the spec's own inference): monotone in the raw
sample and below the period for every legal one; and the top sample's duty. -/
def Obligations.DutyMonotoneAndBounded : Prop :=
  ∀ (p : Params) (a b : Nat), a ≤ b → b < p.rawFullScale →
    duty p a ≤ duty p b ∧ duty p b < p.pwmPeriod ∧ duty p 0 = 0 ∧
    duty p (p.rawFullScale - 1) = p.pwmPeriod - 1 - (p.pwmPeriod - 1) / p.rawFullScale

/-- 45_sampler_pwm.md R152: PWMPB copies the shadow register into the active one, whatever CTRL holds. -/
def Obligations.BoundaryLoadsCompare : Prop :=
  encode .pwmpb = 0x80000000 ∧ ∀ s : State, exec .pwmpb s = .next { s with cmpActive := s.cmpShadow, outs := [] }

/-- 20_memory.md section 4 (R58): over any events without a PWMPB the active register keeps its value, and the PWMPB that
follows gives it what the shadow register holds then. -/
def Obligations.CompareWaitsForBoundary : Prop :=
  ∀ (is : List Instr) (s : State), along noBoundary is s = true →
    (runTo is s).cmpActive = s.cmpActive ∧
    (runTo (is ++ [.pwmpb]) s).cmpActive = (runTo is s).cmpShadow

/-- 40_bcd.md R103: BCDPUB writes both digits, zero-extended, and nothing else, whatever CTRL holds; two free digits for
`n > 99` under Draw. The count of draws is the model's own (log 4). -/
def Obligations.BcdpubPublishesDigits : Prop :=
  ∀ (s : State) (n : BitVec 16),
    encode (.bcdpub n) = 0x90000000 + n.setWidth 32 ∧
    (s.params.bcdOverrange = .algorithm ∨ n.toNat ≤ 99 → exec (.bcdpub n) s = .next { s with
      dig1 := (bcd16 n).tens.setWidth 8
      dig2 := (bcd16 n).units.setWidth 8
      outs := [] }) ∧
    (s.params.bcdOverrange = .draw → 99 < n.toNat → exec (.bcdpub n) s = .next { s with
      dig1 := (Config.draw4 s.drawCount).setWidth 8
      dig2 := (Config.draw4 (s.drawCount + 1)).setWidth 8
      outs := []
      drawCount := s.drawCount + 2 })

/-- 40_bcd.md section 1 (R101, the spec's own inference from the algorithm): the algorithm's result is the two low decimal
digits, over the whole 16-bit domain. -/
def Obligations.DoubleDabbleIsDecimal : Prop :=
  ∀ n : BitVec 16,
    (bcd16 n).tens.toNat = n.toNat % 100 / 10 ∧ (bcd16 n).units.toNat = n.toNat % 10

/-- 40_bcd.md R102: Algorithm gives `((n mod 100) div 10, n mod 10)`; Draw gives two free values above 99; up to 99 the
two settings agree. -/
def Obligations.BcdOverrangeSettings : Prop :=
  ∀ (n : BitVec 16) (k : Nat),
    ((bcdDigits .algorithm k n).1.tens.toNat = n.toNat % 100 / 10 ∧
      (bcdDigits .algorithm k n).1.units.toNat = n.toNat % 10) ∧
    (99 < n.toNat → (bcdDigits .draw k n).1 = ⟨Config.draw4 k, Config.draw4 (k + 1)⟩) ∧
    (n.toNat ≤ 99 → bcdDigits .draw k n = bcdDigits .algorithm k n)

/-- 46_control.md R161: CTRLW writes the whole register, in every state, and nothing else. -/
def Obligations.CtrlwWritesWholeRegister : Prop :=
  ∀ (s : State) (en : BitVec 5),
    encode (.ctrlw en) = 0xA0000000 + en.setWidth 32 ∧ exec (.ctrlw en) s = .next { s with ctrl := en, outs := [] }

/-- 10_state.md section 1, column "written by": an element an event is not listed for keeps its value, in every state. -/
def Obligations.OnlyListedEventsWriteElement : Prop :=
  ∀ (i : Instr) (s t : State), exec i s = .next t →
    (codeOf i ≠ .rxb → t.rxState = s.rxState ∧ t.win0 = s.win0 ∧ t.win1 = s.win1) ∧
    (codeOf i ≠ .rxb → codeOf i ≠ .bcdpub → t.dig1 = s.dig1 ∧ t.dig2 = s.dig2) ∧
    (codeOf i ≠ .rxb → codeOf i ≠ .arm → t.pktFlag = s.pktFlag) ∧
    (codeOf i ≠ .arm → codeOf i ≠ .txrdy → t.txState = s.txState) ∧
    (codeOf i ≠ .tick → t.muxState = s.muxState ∧ t.sel1 = s.sel1 ∧ t.sel2 = s.sel2 ∧ t.seg = s.seg) ∧
    (codeOf i ≠ .edge → codeOf i ≠ .debexp → t.debState = s.debState) ∧
    (codeOf i ≠ .debexp ∨ s.params.debounceAction ≠ .toggleIndicator → t.indicator = s.indicator) ∧
    (codeOf i ≠ .conv → t.sample = s.sample ∧ t.cmpShadow = s.cmpShadow) ∧
    (codeOf i ≠ .pwmpb → t.cmpActive = s.cmpActive) ∧
    (codeOf i ≠ .ctrlw → t.ctrl = s.ctrl) ∧
    t.params = s.params ∧ t.input = s.input

/-- 10_state.md section 8, column "emitted by": an action is emitted only by the events listed for it. -/
def Obligations.OnlyListedEventsEmitAction : Prop :=
  ∀ (i : Instr) (s t : State), exec i s = .next t →
    (∀ b, Action.txd b ∈ t.outs → codeOf i = .arm ∨ codeOf i = .txrdy) ∧
    (∀ k, Action.desel k ∈ t.outs → codeOf i = .tick) ∧
    (∀ q, Action.segw q ∈ t.outs → codeOf i = .tick) ∧
    (∀ k, Action.sela k ∈ t.outs → codeOf i = .tick) ∧
    (Action.ostart ∈ t.outs → codeOf i = .edge) ∧
    (Action.adcgo ∈ t.outs → codeOf i = .debexp ∧ s.params.debounceAction = .triggerSample)

/-- 10_state.md section 8 (R36) with the widths and encodings of section 1 (R20): what each of the 17 status reads is,
each within its element's width, so that two states that read the same hold the same elements. -/
def Obligations.StatusPortShowsEveryElement : Prop :=
  (∀ s : State,
    (s.rxState = .idle → s.status .rxState = 0) ∧ (s.rxState = .gotStart → s.status .rxState = 1) ∧
    (s.rxState = .gotDigit1 → s.status .rxState = 2) ∧ (s.rxState = .gotDigit2 → s.status .rxState = 3) ∧
    s.status .win0 = s.win0.toNat ∧ s.status .win1 = s.win1.toNat ∧
    s.status .dig1 = s.dig1.toNat ∧ s.status .dig2 = s.dig2.toNat ∧
    s.status .pktFlag = (if s.pktFlag = true then 1 else 0) ∧
    (s.txState = .idle → s.status .txState = 0) ∧ (s.txState = .sendDigit1 → s.status .txState = 1) ∧
    (s.txState = .sendDigit2 → s.status .txState = 2) ∧ (s.txState = .sendEnd → s.status .txState = 3) ∧
    (s.muxState = .showDigit1 → s.status .muxState = 0) ∧ (s.muxState = .showDigit2 → s.status .muxState = 1) ∧
    s.status .sel1 = (if s.sel1 = true then 1 else 0) ∧ s.status .sel2 = (if s.sel2 = true then 1 else 0) ∧
    s.status .seg = s.seg.toNat ∧
    (s.debState = .armed → s.status .debState = 0) ∧ (s.debState = .settling → s.status .debState = 1) ∧
    s.status .indicator = (if s.indicator = true then 1 else 0) ∧
    s.status .sample = s.sample.toNat ∧ s.status .cmpShadow = s.cmpShadow.toNat ∧
    s.status .cmpActive = s.cmpActive.toNat ∧ s.status .ctrl = s.ctrl.toNat) ∧
  (∀ (s : State) (e : Element), s.status e < 2 ^ e.width) ∧
  ([.rxState, .win0, .win1, .dig1, .dig2, .pktFlag, .txState, .muxState, .sel1, .sel2, .seg, .debState, .indicator,
    .sample, .cmpShadow, .cmpActive, .ctrl].map Element.width =
    [2, 8, 8, 8, 8, 1, 2, 1, 1, 1, 7, 1, 1, 12, 16, 16, 5]) ∧
  (∀ s t : State, (∀ e, s.status e = t.status e) →
    s.rxState = t.rxState ∧ s.win0 = t.win0 ∧ s.win1 = t.win1 ∧ s.dig1 = t.dig1 ∧ s.dig2 = t.dig2 ∧
    s.pktFlag = t.pktFlag ∧ s.txState = t.txState ∧ s.muxState = t.muxState ∧ s.sel1 = t.sel1 ∧
    s.sel2 = t.sel2 ∧ s.seg = t.seg ∧ s.debState = t.debState ∧ s.indicator = t.indicator ∧
    s.sample = t.sample ∧ s.cmpShadow = t.cmpShadow ∧ s.cmpActive = t.cmpActive ∧ s.ctrl = t.ctrl)

/-- 10_state.md R37: each segment and select pin is its logical value xor the polarity parameter, for the latches and for
what SEGW, SELA and DESEL drive. -/
def Obligations.PinsXorPolarity : Prop :=
  (∀ (s : State) (j : Nat), j < 7 →
    s.displayPins.seg.getLsbD j = (s.seg.getLsbD j ^^ s.params.segActiveLow)) ∧
  (∀ s : State, s.displayPins.sel1 = (s.sel1 ^^ s.params.selActiveLow) ∧
    s.displayPins.sel2 = (s.sel2 ^^ s.params.selActiveLow)) ∧
  (∀ (p : Params) (d : DisplayPins) (q : Pattern),
    (∀ j, j < 7 → (drive p d (.segw q)).seg.getLsbD j = (q.getLsbD j ^^ p.segActiveLow)) ∧
    drive p d (.sela .one) = { d with sel1 := true ^^ p.selActiveLow } ∧
    drive p d (.sela .two) = { d with sel2 := true ^^ p.selActiveLow } ∧
    drive p d (.desel .one) = { d with sel1 := false ^^ p.selActiveLow } ∧
    drive p d (.desel .two) = { d with sel2 := false ^^ p.selActiveLow })

/-- 10_state.md sections 3 and 8 (R27, R35): the actions of a step, applied in list order to the pins the latches drove
before it, leave the pins the latches drive after it. -/
def Obligations.ActionsDriveWhatLatchesHold : Prop :=
  ∀ (i : Instr) (s t : State), exec i s = .next t → driveAll s.params s.displayPins t.outs = t.displayPins

/-- 70_reset_and_hazards.md section 3 (R205) with 41_display_mux.md R112 (the spec's own inference): while a step's
actions are applied in order, two digits are never selected at once, and the segment lines change only while neither is. -/
def Obligations.SwitchingShowsNoGlitch : Prop :=
  ∀ (i : Instr) (s t : State) (done rest : List Action) (a : Action), Dark s ∨ Lit s → exec i s = .next t →
    t.outs = done ++ a :: rest →
    ¬((driveAll s.params s.displayPins (done ++ [a])).sel1 = selLevel s.params true ∧
      (driveAll s.params s.displayPins (done ++ [a])).sel2 = selLevel s.params true) ∧
    (∀ q, a = .segw q →
      (driveAll s.params s.displayPins done).sel1 = selLevel s.params false ∧
      (driveAll s.params s.displayPins done).sel2 = selLevel s.params false)

/-- 41_display_mux.md R112 (the spec's own inference): of two consecutive ungated TICKs, with any other events between
them, one selects digit 1 and the other digit 2, each with its actions in the mandatory order. -/
def Obligations.TwoTicksShowEachDigitOnce : Prop :=
  ∀ (s : State) (gap : List Instr), s.muxEn = true → along noTick gap (after .tick s) = true →
    (runTo gap (after .tick s)).muxEn = true →
    ∃ (k k' : DigitPos) (q q' : Pattern), k ≠ k' ∧
      (after .tick s).outs = [.desel k', .segw q, .sela k] ∧
      (after .tick (runTo gap (after .tick s))).outs = [.desel k, .segw q', .sela k']

/-- 42_framer_rx.md R123 (the spec's own inference; the corrected property of 90_conflicts.md C1): along any events from
Idle, the publications are exactly the frames of the ungated bytes, each with its two candidates. -/
def Obligations.PublicationsAreFrames : Prop :=
  ∀ (is : List Instr) (s : State), s.rxState = .idle → publications is s = frames (ungatedBytes s.ctrl is)

/-- 42_framer_rx.md section 3 (R124): a packet accepted while the flag is still up overwrites both digits, leaves the flag
up and emits nothing. -/
def Obligations.SecondPacketOverwrites : Prop :=
  ∀ (s : State) (b1 b2 : Byte), s.ctrl.getLsbD 0 = true → s.rxState = .idle → s.pktFlag = true →
    outputs [.rxb 0x73, .rxb b1, .rxb b2, .rxb 0x74] s = [[], [], [], []] ∧
    runTo [.rxb 0x73, .rxb b1, .rxb b2, .rxb 0x74] s =
      { s with win0 := b1, win1 := b2, dig1 := b1 - 0x30, dig2 := b2 - 0x30, outs := [] }

/-- 43_framer_tx.md R132 (the spec's own inference). First, an acceptance raises the flag and keeps the window. Then, from
any state with the flag up, whatever TX_STATE and the receive state are: the first ARM that finds the flag up and TX_STATE
Idle and the next three ungated TXRDYs send the four bytes with the window as it was at the start, nothing else is sent
from that ARM on, and the transmitter is idle again. `g0` to `g3` are any other events: `g0` may hold the rest of an
earlier echo, the ARMs ignored meanwhile and TXRDYs in Idle. The conditions 2 and 3 are taken up to this reply's own
TXRDYs, not those of an earlier echo; 4 follows from 2. -/
def Obligations.EchoReturnsAcceptedPacket : Prop :=
  (∀ r : State, r.ctrl.getLsbD 0 = true → r.rxState = .gotDigit2 →
    (after (.rxb 0x74) r).pktFlag = true ∧ (after (.rxb 0x74) r).win0 = r.win0 ∧
    (after (.rxb 0x74) r).win1 = r.win1 ∧ (after (.rxb 0x74) r).txState = r.txState) ∧
  ∀ (s s1 s2 s3 s4 : State) (g0 g1 g2 g3 : List Instr), s.pktFlag = true →
    s1 = runTo g0 s → s2 = runTo g1 (after .arm s1) → s3 = runTo g2 (after .txrdy s2) →
    s4 = runTo g3 (after .txrdy s3) →
    along noEchoStart g0 s = true → s1.txState = .idle → along noTxrdy g1 (after .arm s1) = true →
    along noTxrdy g2 (after .txrdy s2) = true → along noTxrdy g3 (after .txrdy s3) = true →
    s2.txEn = true → s3.txEn = true → s4.txEn = true →
    along (noByteIn .gotStart) g0 s = true → along (noByteIn .gotStart) g1 (after .arm s1) = true →
    along (noByteIn .gotDigit1) g0 s = true → along (noByteIn .gotDigit1) g1 (after .arm s1) = true →
    along (noByteIn .gotDigit1) g2 (after .txrdy s2) = true →
    (after .arm s1).outs = [.txd 0x73] ∧ (after .txrdy s2).outs = [.txd s.win0] ∧
    (after .txrdy s3).outs = [.txd s.win1] ∧ (after .txrdy s4).outs = [.txd 0x74] ∧
    (after .txrdy s4).txState = .idle ∧
    (s.txState = .idle → txBytes (outputs g0 s).flatten = []) ∧
    txBytes (outputs g1 (after .arm s1)).flatten = [] ∧
    txBytes (outputs g2 (after .txrdy s2)).flatten = [] ∧ txBytes (outputs g3 (after .txrdy s3)).flatten = []

/-- 43_framer_tx.md section 3 (R133, the spec's own inference): no step sends more than one byte, and only an ARM that
starts an echo or an ungated TXRDY in an active echo sends one. -/
def Obligations.AtMostOneBytePerStep : Prop :=
  ∀ (i : Instr) (s t : State), exec i s = .next t →
    (txBytes t.outs).length ≤ 1 ∧
    (txBytes t.outs ≠ [] → (i = .arm ∧ s.pktFlag = true ∧ s.txState = .idle) ∨
      (i = .txrdy ∧ s.ctrl.getLsbD 1 = true ∧ s.txState ≠ .idle))

/-- 44_debouncer.md R143 (the spec's own inference): from Armed, any number of ungated EDGEs and one ungated DEBEXP start
the timer once, act exactly once on level 0 and not at all on level 1, and end Armed with nothing else changed. -/
def Obligations.BouncingPressActsOnce : Prop :=
  ∀ (s : State) (n : Nat) (level : BitVec 1), s.ctrl.getLsbD 3 = true → s.debState = .armed →
    outputs (List.replicate (n + 1) .edge ++ [.debexp level]) s =
      [Action.ostart] :: List.replicate n [] ++
        [if level = 0 ∧ s.params.debounceAction = .triggerSample then [Action.adcgo] else []] ∧
    runTo (List.replicate (n + 1) .edge ++ [.debexp level]) s =
      { s with
        indicator :=
          if level = 0 ∧ s.params.debounceAction = .toggleIndicator then !s.indicator else s.indicator
        outs := if level = 0 ∧ s.params.debounceAction = .triggerSample then [.adcgo] else [] }

/-- 44_debouncer.md section 2 and 60_exceptions.md section 6 (R181, the spec's own inference): the timer is started only
by an EDGE that finds it stopped, which leaves it running; it is never restarted while it runs. -/
def Obligations.TimerNeverRestarted : Prop :=
  ∀ (i : Instr) (s t : State), exec i s = .next t → Action.ostart ∈ t.outs →
    i = .edge ∧ s.ostRun = false ∧ s.edgeIe = true ∧ t.ostRun = true ∧ t.edgeIe = false

/-- 70_reset_and_hazards.md section 3 (R210, the spec's own inference): in Settling, as long as no ungated DEBEXP is
delivered, the debouncer stays Settling, never starts the timer and performs neither dependent action of 44_debouncer.md
R141 (no ADCGO, INDICATOR not inverted), whatever else happens. -/
def Obligations.LostExpiryLocksOut : Prop :=
  ∀ (is : List Instr) (s : State), s.debState = .settling → along noExpiry is s = true →
    (runTo is s).debState = .settling ∧ (runTo is s).indicator = s.indicator ∧
    ∀ l ∈ outputs is s, Action.ostart ∉ l ∧ Action.adcgo ∉ l

/-- 70_reset_and_hazards.md section 3 (R209): with its enable bit at 0 and no CTRLW, a unit's state stays where it stood
over any events. -/
def Obligations.DisabledUnitStaysFrozen : Prop :=
  ∀ (is : List Instr) (s : State), along noControl is s = true →
    (s.ctrl.getLsbD 0 = false →
      (runTo is s).rxState = s.rxState ∧ (runTo is s).win0 = s.win0 ∧ (runTo is s).win1 = s.win1) ∧
    (s.ctrl.getLsbD 1 = false → s.txState ≠ .idle → (runTo is s).txState = s.txState) ∧
    (s.ctrl.getLsbD 2 = false → (runTo is s).muxState = s.muxState ∧ (runTo is s).sel1 = s.sel1 ∧
      (runTo is s).sel2 = s.sel2 ∧ (runTo is s).seg = s.seg) ∧
    (s.ctrl.getLsbD 3 = false →
      (runTo is s).debState = s.debState ∧ (runTo is s).indicator = s.indicator) ∧
    (s.ctrl.getLsbD 4 = false → (runTo is s).sample = s.sample ∧ (runTo is s).cmpShadow = s.cmpShadow)

/-- 10_state.md R38 (the spec's own inference): what the window cells hold at reset is never seen in an output action:
two runs that differ only in it emit the same actions, step for step. -/
def Obligations.ResetWindowNeverObserved : Prop :=
  ∀ (p : Params) (is : List Instr) (a b : Byte),
    outputs is { State.resetWith p with win0 := a, win1 := b } = outputs is (State.resetWith p)

/-- 10_state.md R30 and section 1, column "read by": no event reads SAMPLE, CMP_ACTIVE or a display latch. Whatever the
five hold before the event, it answers the same next state and actions, and each of the five either keeps what it was
given or is written the value the event writes; which of the two does not depend on what they hold. -/
def Obligations.OutputOnlyElementsNeverRead : Prop :=
  ∀ (i : Instr) (s t : State), exec i s = .next t →
    ∃ writesSample writesCmp writesDisplay : Bool,
      ∀ (v : BitVec 12) (c : BitVec 16) (x y : Bool) (q : Pattern),
        exec i { s with sample := v, cmpActive := c, sel1 := x, sel2 := y, seg := q } =
          .next { t with
            sample := if writesSample then t.sample else v
            cmpActive := if writesCmp then t.cmpActive else c
            sel1 := if writesDisplay then t.sel1 else x
            sel2 := if writesDisplay then t.sel2 else y
            seg := if writesDisplay then t.seg else q }

/-- 45_sampler_pwm.md R154: TRIGGER_SOURCE changes no event's effect, under either value. -/
def Obligations.TriggerSourceChangesNothing : Prop :=
  ∀ (i : Instr) (s t : State) (x : TriggerSource), exec i s = .next t →
    exec i { s with params := { s.params with triggerSource := x } } =
      .next { t with params := { t.params with triggerSource := x } }

/-- 20_memory.md section 3 (R55): the repeated event leaves what the first left. BCDPUB with two free digits is left out:
a second draw is a fresh value (log 4). -/
def Obligations.RepeatedEventsIdempotent : Prop :=
  ∀ s : State,
    (∀ e, after (.ctrlw e) (after (.ctrlw e) s) = after (.ctrlw e) s) ∧
    after .pwmpb (after .pwmpb s) = after .pwmpb s ∧
    (∀ n : BitVec 16, s.params.bcdOverrange = .algorithm ∨ n.toNat ≤ 99 →
      after (.bcdpub n) (after (.bcdpub n) s) = after (.bcdpub n) s) ∧
    (s.pktFlag = false ∨ s.txState ≠ .idle → after .arm (after .arm s) = after .arm s) ∧
    (s.txState = .idle → after .txrdy (after .txrdy s) = after .txrdy s)

/-- 60_exceptions.md section 3 (R175): under Unconstrained every pending event may be delivered next; under a total order
only pending events may be, all of one code, no pending event stands higher, and while any is pending one may be. That a
total order is a list of codes, the highest first, and that pending events of one code may come in any order among
themselves (the last clause) is the model's choice (log 9). -/
def Obligations.PriorityServesHighestFirst : Prop :=
  (∀ (pending : List Instr) (i : Instr), maySelect .unconstrained pending i = true ↔ i ∈ pending) ∧
  (∀ (order : List EventCode) (pending : List Instr), (EventPriority.fixed order).legal = true →
    (∀ i, maySelect (.fixed order) pending i = true → i ∈ pending) ∧
    (∀ i j, maySelect (.fixed order) pending i = true → maySelect (.fixed order) pending j = true →
      codeOf i = codeOf j) ∧
    (pending ≠ [] → ∃ i ∈ pending, maySelect (.fixed order) pending i = true) ∧
    (∀ i j, maySelect (.fixed order) pending i = true → j ∈ pending →
      order.idxOf (codeOf i) ≤ order.idxOf (codeOf j)) ∧
    (∀ i j, maySelect (.fixed order) pending i = true → j ∈ pending → codeOf j = codeOf i →
      maySelect (.fixed order) pending j = true))

/-- 60_exceptions.md section 8 (R186, duties E3 and E4): if the environment keeps them, the block sends a byte only when
the transmit data register can take it. -/
def Obligations.DutiesPreventOverrun : Prop :=
  ∀ (transmitterFree : Bool) (i : Instr) (s t : State), mayDeliver transmitterFree i s = true →
    exec i s = .next t → txBytes t.outs ≠ [] → transmitterFree = true

/-- 30_encoding.md section 5 (R75, R76): the word of each event line, and the events each pseudo-event expands to. -/
def Obligations.ScriptLinesExpand : Prop :=
  (∀ v : Nat, v < 2 ^ 16 →
    Script.lineWord (.rxb, v) = some (0x10000000 + BitVec.ofNat 32 v) ∧
    Script.lineWord (.debexp, v) = some (0x60000000 + BitVec.ofNat 32 v) ∧
    Script.lineWord (.conv, v) = some (0x70000000 + BitVec.ofNat 32 v) ∧
    Script.lineWord (.bcdpub, v) = some (0x90000000 + BitVec.ofNat 32 v) ∧
    Script.lineWord (.ctrlw, v) = some (0xA0000000 + BitVec.ofNat 32 v)) ∧
  Script.lineWord (.txrdy, 0) = some 0x20000000 ∧ Script.lineWord (.arm, 0) = some 0x30000000 ∧
  Script.lineWord (.tick, 0) = some 0x40000000 ∧ Script.lineWord (.edge, 0) = some 0x50000000 ∧
  Script.lineWord (.pwmpb, 0) = some 0x80000000 ∧
  (∀ bs : List Byte, Script.expand (.rxs bs) = bs.map fun b => (.rxb, b.toNat)) ∧
  (∀ d1 d2 : Nat, Script.expand (.pkt d1 d2) = [(.rxb, 0x73), (.rxb, 0x30 + d1), (.rxb, 0x30 + d2), (.rxb, 0x74)]) ∧
  Script.expand .echo = [(.arm, 0), (.txrdy, 0), (.txrdy, 0), (.txrdy, 0)] ∧
  (∀ l : Nat, Script.expand (.press l) = [(.edge, 0), (.debexp, l)]) ∧
  (∀ k l : Nat, Script.expand (.bounce k l) = List.replicate k (.edge, 0) ++ [(.debexp, l)]) ∧
  (∀ r : Nat, Script.expand (.samplePwm r) = [(.conv, r), (.pwmpb, 0)])

/-- 10_state.md R28: the edge interrupt is enabled exactly in Armed and the timer counts exactly in Settling, so the two
are never active together. -/
def Obligations.EdgeEnableAndTimerExclude : Prop :=
  ∀ s : State, (s.edgeIe = true ↔ s.debState = .armed) ∧ (s.ostRun = true ↔ s.debState = .settling) ∧
    s.edgeIe = !s.ostRun
end

