-- ==== Sys2Proof/Laws/State.lean ====
section
/-! SUPPORT. What each named update of State does to each field: true by rfl, so that no later proof unfolds an update. -/

namespace Sys2Proof.Machine

section
variable (s : State) (l : List Action)

@[simp] theorem State.emit_rxState : (State.emit l s).rxState = s.rxState := rfl
@[simp] theorem State.emit_win0 : (State.emit l s).win0 = s.win0 := rfl
@[simp] theorem State.emit_win1 : (State.emit l s).win1 = s.win1 := rfl
@[simp] theorem State.emit_dig1 : (State.emit l s).dig1 = s.dig1 := rfl
@[simp] theorem State.emit_dig2 : (State.emit l s).dig2 = s.dig2 := rfl
@[simp] theorem State.emit_pktFlag : (State.emit l s).pktFlag = s.pktFlag := rfl
@[simp] theorem State.emit_txState : (State.emit l s).txState = s.txState := rfl
@[simp] theorem State.emit_muxState : (State.emit l s).muxState = s.muxState := rfl
@[simp] theorem State.emit_sel1 : (State.emit l s).sel1 = s.sel1 := rfl
@[simp] theorem State.emit_sel2 : (State.emit l s).sel2 = s.sel2 := rfl
@[simp] theorem State.emit_seg : (State.emit l s).seg = s.seg := rfl
@[simp] theorem State.emit_debState : (State.emit l s).debState = s.debState := rfl
@[simp] theorem State.emit_indicator : (State.emit l s).indicator = s.indicator := rfl
@[simp] theorem State.emit_sample : (State.emit l s).sample = s.sample := rfl
@[simp] theorem State.emit_cmpShadow : (State.emit l s).cmpShadow = s.cmpShadow := rfl
@[simp] theorem State.emit_cmpActive : (State.emit l s).cmpActive = s.cmpActive := rfl
@[simp] theorem State.emit_ctrl : (State.emit l s).ctrl = s.ctrl := rfl
@[simp] theorem State.emit_outs : (State.emit l s).outs = l := rfl
@[simp] theorem State.emit_mark : (State.emit l s).mark = s.mark := rfl
@[simp] theorem State.emit_params : (State.emit l s).params = s.params := rfl
@[simp] theorem State.emit_input : (State.emit l s).input = s.input := rfl
@[simp] theorem State.emit_drawCount : (State.emit l s).drawCount = s.drawCount := rfl

end

section
variable (s : State) (r : Invalid)

@[simp] theorem State.refuse_rxState : (State.refuse r s).rxState = s.rxState := rfl
@[simp] theorem State.refuse_win0 : (State.refuse r s).win0 = s.win0 := rfl
@[simp] theorem State.refuse_win1 : (State.refuse r s).win1 = s.win1 := rfl
@[simp] theorem State.refuse_dig1 : (State.refuse r s).dig1 = s.dig1 := rfl
@[simp] theorem State.refuse_dig2 : (State.refuse r s).dig2 = s.dig2 := rfl
@[simp] theorem State.refuse_pktFlag : (State.refuse r s).pktFlag = s.pktFlag := rfl
@[simp] theorem State.refuse_txState : (State.refuse r s).txState = s.txState := rfl
@[simp] theorem State.refuse_muxState : (State.refuse r s).muxState = s.muxState := rfl
@[simp] theorem State.refuse_sel1 : (State.refuse r s).sel1 = s.sel1 := rfl
@[simp] theorem State.refuse_sel2 : (State.refuse r s).sel2 = s.sel2 := rfl
@[simp] theorem State.refuse_seg : (State.refuse r s).seg = s.seg := rfl
@[simp] theorem State.refuse_debState : (State.refuse r s).debState = s.debState := rfl
@[simp] theorem State.refuse_indicator : (State.refuse r s).indicator = s.indicator := rfl
@[simp] theorem State.refuse_sample : (State.refuse r s).sample = s.sample := rfl
@[simp] theorem State.refuse_cmpShadow : (State.refuse r s).cmpShadow = s.cmpShadow := rfl
@[simp] theorem State.refuse_cmpActive : (State.refuse r s).cmpActive = s.cmpActive := rfl
@[simp] theorem State.refuse_ctrl : (State.refuse r s).ctrl = s.ctrl := rfl
@[simp] theorem State.refuse_outs : (State.refuse r s).outs = [] := rfl
@[simp] theorem State.refuse_mark : (State.refuse r s).mark = s.mark.record r := rfl
@[simp] theorem State.refuse_params : (State.refuse r s).params = s.params := rfl
@[simp] theorem State.refuse_input : (State.refuse r s).input = s.input := rfl
@[simp] theorem State.refuse_drawCount : (State.refuse r s).drawCount = s.drawCount := rfl

end

section
variable (s : State) (d1 d2 : Byte)

@[simp] theorem State.publish_rxState : (State.publish d1 d2 s).rxState = s.rxState := rfl
@[simp] theorem State.publish_win0 : (State.publish d1 d2 s).win0 = s.win0 := rfl
@[simp] theorem State.publish_win1 : (State.publish d1 d2 s).win1 = s.win1 := rfl
@[simp] theorem State.publish_dig1 : (State.publish d1 d2 s).dig1 = d1 := rfl
@[simp] theorem State.publish_dig2 : (State.publish d1 d2 s).dig2 = d2 := rfl
@[simp] theorem State.publish_pktFlag : (State.publish d1 d2 s).pktFlag = s.pktFlag := rfl
@[simp] theorem State.publish_txState : (State.publish d1 d2 s).txState = s.txState := rfl
@[simp] theorem State.publish_muxState : (State.publish d1 d2 s).muxState = s.muxState := rfl
@[simp] theorem State.publish_sel1 : (State.publish d1 d2 s).sel1 = s.sel1 := rfl
@[simp] theorem State.publish_sel2 : (State.publish d1 d2 s).sel2 = s.sel2 := rfl
@[simp] theorem State.publish_seg : (State.publish d1 d2 s).seg = s.seg := rfl
@[simp] theorem State.publish_debState : (State.publish d1 d2 s).debState = s.debState := rfl
@[simp] theorem State.publish_indicator : (State.publish d1 d2 s).indicator = s.indicator := rfl
@[simp] theorem State.publish_sample : (State.publish d1 d2 s).sample = s.sample := rfl
@[simp] theorem State.publish_cmpShadow : (State.publish d1 d2 s).cmpShadow = s.cmpShadow := rfl
@[simp] theorem State.publish_cmpActive : (State.publish d1 d2 s).cmpActive = s.cmpActive := rfl
@[simp] theorem State.publish_ctrl : (State.publish d1 d2 s).ctrl = s.ctrl := rfl
@[simp] theorem State.publish_outs : (State.publish d1 d2 s).outs = s.outs := rfl
@[simp] theorem State.publish_mark : (State.publish d1 d2 s).mark = s.mark := rfl
@[simp] theorem State.publish_params : (State.publish d1 d2 s).params = s.params := rfl
@[simp] theorem State.publish_input : (State.publish d1 d2 s).input = s.input := rfl
@[simp] theorem State.publish_drawCount : (State.publish d1 d2 s).drawCount = s.drawCount := rfl

end

section
variable (s : State)

@[simp] theorem State.raisePacketFlag_rxState : (State.raisePacketFlag s).rxState = s.rxState := rfl
@[simp] theorem State.raisePacketFlag_win0 : (State.raisePacketFlag s).win0 = s.win0 := rfl
@[simp] theorem State.raisePacketFlag_win1 : (State.raisePacketFlag s).win1 = s.win1 := rfl
@[simp] theorem State.raisePacketFlag_dig1 : (State.raisePacketFlag s).dig1 = s.dig1 := rfl
@[simp] theorem State.raisePacketFlag_dig2 : (State.raisePacketFlag s).dig2 = s.dig2 := rfl
@[simp] theorem State.raisePacketFlag_pktFlag : (State.raisePacketFlag s).pktFlag = true := rfl
@[simp] theorem State.raisePacketFlag_txState : (State.raisePacketFlag s).txState = s.txState := rfl
@[simp] theorem State.raisePacketFlag_muxState : (State.raisePacketFlag s).muxState = s.muxState := rfl
@[simp] theorem State.raisePacketFlag_sel1 : (State.raisePacketFlag s).sel1 = s.sel1 := rfl
@[simp] theorem State.raisePacketFlag_sel2 : (State.raisePacketFlag s).sel2 = s.sel2 := rfl
@[simp] theorem State.raisePacketFlag_seg : (State.raisePacketFlag s).seg = s.seg := rfl
@[simp] theorem State.raisePacketFlag_debState : (State.raisePacketFlag s).debState = s.debState := rfl
@[simp] theorem State.raisePacketFlag_indicator : (State.raisePacketFlag s).indicator = s.indicator := rfl
@[simp] theorem State.raisePacketFlag_sample : (State.raisePacketFlag s).sample = s.sample := rfl
@[simp] theorem State.raisePacketFlag_cmpShadow : (State.raisePacketFlag s).cmpShadow = s.cmpShadow := rfl
@[simp] theorem State.raisePacketFlag_cmpActive : (State.raisePacketFlag s).cmpActive = s.cmpActive := rfl
@[simp] theorem State.raisePacketFlag_ctrl : (State.raisePacketFlag s).ctrl = s.ctrl := rfl
@[simp] theorem State.raisePacketFlag_outs : (State.raisePacketFlag s).outs = s.outs := rfl
@[simp] theorem State.raisePacketFlag_mark : (State.raisePacketFlag s).mark = s.mark := rfl
@[simp] theorem State.raisePacketFlag_params : (State.raisePacketFlag s).params = s.params := rfl
@[simp] theorem State.raisePacketFlag_input : (State.raisePacketFlag s).input = s.input := rfl
@[simp] theorem State.raisePacketFlag_drawCount : (State.raisePacketFlag s).drawCount = s.drawCount := rfl

end

section
variable (s : State)

@[simp] theorem State.clearPacketFlag_rxState : (State.clearPacketFlag s).rxState = s.rxState := rfl
@[simp] theorem State.clearPacketFlag_win0 : (State.clearPacketFlag s).win0 = s.win0 := rfl
@[simp] theorem State.clearPacketFlag_win1 : (State.clearPacketFlag s).win1 = s.win1 := rfl
@[simp] theorem State.clearPacketFlag_dig1 : (State.clearPacketFlag s).dig1 = s.dig1 := rfl
@[simp] theorem State.clearPacketFlag_dig2 : (State.clearPacketFlag s).dig2 = s.dig2 := rfl
@[simp] theorem State.clearPacketFlag_pktFlag : (State.clearPacketFlag s).pktFlag = false := rfl
@[simp] theorem State.clearPacketFlag_txState : (State.clearPacketFlag s).txState = s.txState := rfl
@[simp] theorem State.clearPacketFlag_muxState : (State.clearPacketFlag s).muxState = s.muxState := rfl
@[simp] theorem State.clearPacketFlag_sel1 : (State.clearPacketFlag s).sel1 = s.sel1 := rfl
@[simp] theorem State.clearPacketFlag_sel2 : (State.clearPacketFlag s).sel2 = s.sel2 := rfl
@[simp] theorem State.clearPacketFlag_seg : (State.clearPacketFlag s).seg = s.seg := rfl
@[simp] theorem State.clearPacketFlag_debState : (State.clearPacketFlag s).debState = s.debState := rfl
@[simp] theorem State.clearPacketFlag_indicator : (State.clearPacketFlag s).indicator = s.indicator := rfl
@[simp] theorem State.clearPacketFlag_sample : (State.clearPacketFlag s).sample = s.sample := rfl
@[simp] theorem State.clearPacketFlag_cmpShadow : (State.clearPacketFlag s).cmpShadow = s.cmpShadow := rfl
@[simp] theorem State.clearPacketFlag_cmpActive : (State.clearPacketFlag s).cmpActive = s.cmpActive := rfl
@[simp] theorem State.clearPacketFlag_ctrl : (State.clearPacketFlag s).ctrl = s.ctrl := rfl
@[simp] theorem State.clearPacketFlag_outs : (State.clearPacketFlag s).outs = s.outs := rfl
@[simp] theorem State.clearPacketFlag_mark : (State.clearPacketFlag s).mark = s.mark := rfl
@[simp] theorem State.clearPacketFlag_params : (State.clearPacketFlag s).params = s.params := rfl
@[simp] theorem State.clearPacketFlag_input : (State.clearPacketFlag s).input = s.input := rfl
@[simp] theorem State.clearPacketFlag_drawCount : (State.clearPacketFlag s).drawCount = s.drawCount := rfl

end

section
variable (s : State) (l : List EventWord)

@[simp] theorem State.awaiting_rxState : (State.awaiting l s).rxState = s.rxState := rfl
@[simp] theorem State.awaiting_win0 : (State.awaiting l s).win0 = s.win0 := rfl
@[simp] theorem State.awaiting_win1 : (State.awaiting l s).win1 = s.win1 := rfl
@[simp] theorem State.awaiting_dig1 : (State.awaiting l s).dig1 = s.dig1 := rfl
@[simp] theorem State.awaiting_dig2 : (State.awaiting l s).dig2 = s.dig2 := rfl
@[simp] theorem State.awaiting_pktFlag : (State.awaiting l s).pktFlag = s.pktFlag := rfl
@[simp] theorem State.awaiting_txState : (State.awaiting l s).txState = s.txState := rfl
@[simp] theorem State.awaiting_muxState : (State.awaiting l s).muxState = s.muxState := rfl
@[simp] theorem State.awaiting_sel1 : (State.awaiting l s).sel1 = s.sel1 := rfl
@[simp] theorem State.awaiting_sel2 : (State.awaiting l s).sel2 = s.sel2 := rfl
@[simp] theorem State.awaiting_seg : (State.awaiting l s).seg = s.seg := rfl
@[simp] theorem State.awaiting_debState : (State.awaiting l s).debState = s.debState := rfl
@[simp] theorem State.awaiting_indicator : (State.awaiting l s).indicator = s.indicator := rfl
@[simp] theorem State.awaiting_sample : (State.awaiting l s).sample = s.sample := rfl
@[simp] theorem State.awaiting_cmpShadow : (State.awaiting l s).cmpShadow = s.cmpShadow := rfl
@[simp] theorem State.awaiting_cmpActive : (State.awaiting l s).cmpActive = s.cmpActive := rfl
@[simp] theorem State.awaiting_ctrl : (State.awaiting l s).ctrl = s.ctrl := rfl
@[simp] theorem State.awaiting_outs : (State.awaiting l s).outs = s.outs := rfl
@[simp] theorem State.awaiting_mark : (State.awaiting l s).mark = s.mark := rfl
@[simp] theorem State.awaiting_params : (State.awaiting l s).params = s.params := rfl
@[simp] theorem State.awaiting_input : (State.awaiting l s).input = l := rfl
@[simp] theorem State.awaiting_drawCount : (State.awaiting l s).drawCount = s.drawCount := rfl

end

end Sys2Proof.Machine
end

