-- ==== Sys2Proof/Laws/Ops.lean ====
section
/-! SUPPORT. One lemma per shared operation that says everything it can do: later proofs cite these and do not unfold the
operation. -/

namespace Sys2Proof.Machine

theorem accept_next {l : List Action} {s t : State} : accept l s = .next t ↔ t = s.emit l := by
  simp [accept, eq_comm]

theorem ignore_next {s t : State} : ignore s = .next t ↔ t = s.emit [] := accept_next

theorem refuseWord_next {r : Invalid} {s t : State} : refuseWord r s = .next t ↔ t = s.refuse r := by
  simp [refuseWord, eq_comm]

/-- A gated meaning either runs, its bit being 1, or is ignored, its bit being 0. -/
theorem whenEnabled_next {e : Bool} {s t : State} {m : State → Result} :
    whenEnabled e s m = .next t ↔ (e = true ∧ m s = .next t) ∨ (e = false ∧ t = s.emit []) := by
  cases e <;> simp [whenEnabled, ignore_next]

@[simp] theorem record_reservedBitsSet (m : RefusalMark) (r : Invalid) :
    (m.record r).reservedBitsSet = (m.reservedBitsSet || r == .reservedBitsSet) := by
  cases r <;> simp [RefusalMark.record]

@[simp] theorem record_reservedOpcode (m : RefusalMark) (r : Invalid) :
    (m.record r).reservedOpcode = (m.reservedOpcode || r == .reservedOpcode) := by
  cases r <;> simp [RefusalMark.record]

@[simp] theorem record_payloadOutOfRange (m : RefusalMark) (r : Invalid) :
    (m.record r).payloadOutOfRange = (m.payloadOutOfRange || r == .payloadOutOfRange) := by
  cases r <;> simp [RefusalMark.record]

@[simp] theorem takeEvent_nil {s : State} (h : s.input = []) : s.takeEvent = none := by
  simp [State.takeEvent, h]

@[simp] theorem takeEvent_cons {s : State} {w : EventWord} {rest : List EventWord} (h : s.input = w :: rest) :
    s.takeEvent = some (w, s.awaiting rest) := by
  simp [State.takeEvent, h]

/-- The event word placed by withFetchWord is the one the step takes. -/
theorem takeEvent_withFetchWord (s : State) (nbits w : Nat) :
    (s.withFetchWord nbits w).takeEvent = some (BitVec.ofNat 32 (w % 2 ^ nbits), s) := by
  simp [State.withFetchWord, State.takeEvent, State.awaiting]

end Sys2Proof.Machine
end

