-- ==== Sys2Proof/Laws/Events.lean ====
section
/-! SUPPORT. What each event, and a step, can do, once: if it answers `next t`, then `t` is one of the listed states. -/

namespace Sys2Proof.Machine

theorem receive_cases {b : Byte} {s t : State} (h : receive b s = .next t) :
    (s.rxState = .idle ∧ b = symStart ∧ t = { s with rxState := .gotStart, outs := [] }) ∨
    (s.rxState = .idle ∧ b ≠ symStart ∧ t = { s with outs := [] }) ∨
    (s.rxState = .gotStart ∧ t = { s with win0 := b, rxState := .gotDigit1, outs := [] }) ∨
    (s.rxState = .gotDigit1 ∧ t = { s with win1 := b, rxState := .gotDigit2, outs := [] }) ∨
    (s.rxState = .gotDigit2 ∧ b = symEnd ∧ t = { s with
      dig1 := digitOf s.win0, dig2 := digitOf s.win1, pktFlag := true, rxState := .idle, outs := [] }) ∨
    (s.rxState = .gotDigit2 ∧ b ≠ symEnd ∧ t = { s with rxState := .idle, outs := [] }) := by
  unfold receive at h
  split at h
  · split at h <;> simp_all [accept_next, ignore_next, State.emit]
  · simp_all [accept_next, State.emit]
  · simp_all [accept_next, State.emit]
  · split at h <;> simp_all [accept_next, State.emit, State.publish, State.raisePacketFlag]

theorem execRxb_cases {b : Byte} {s t : State} (h : execRxb b s = .next t) :
    (s.rxEn = true ∧ receive b s = .next t) ∨ (s.rxEn = false ∧ t = { s with outs := [] }) :=
  whenEnabled_next.1 h

theorem sendNext_cases {s t : State} (h : sendNext s = .next t) :
    (s.txState = .idle ∧ t = { s with outs := [] }) ∨
    (s.txState = .sendDigit1 ∧ t = { s with txState := .sendDigit2, outs := [.txd s.win0] }) ∨
    (s.txState = .sendDigit2 ∧ t = { s with txState := .sendEnd, outs := [.txd s.win1] }) ∨
    (s.txState = .sendEnd ∧ t = { s with txState := .idle, outs := [.txd symEnd] }) := by
  unfold sendNext at h
  split at h <;> simp_all [accept_next, ignore_next, State.emit]

theorem execTxrdy_cases {s t : State} (h : execTxrdy s = .next t) :
    (s.txEn = true ∧ sendNext s = .next t) ∨ (s.txEn = false ∧ t = { s with outs := [] }) :=
  whenEnabled_next.1 h

theorem execArm_cases {s t : State} (h : execArm s = .next t) :
    (s.canStartEcho = true ∧ t = { s with pktFlag := false, txState := .sendDigit1, outs := [.txd symStart] }) ∨
    (s.canStartEcho = false ∧ t = { s with outs := [] }) := by
  unfold execArm at h
  split at h <;> simp_all [accept_next, ignore_next, State.emit, State.clearPacketFlag]

theorem switchDigit_cases {s t : State} (h : switchDigit s = .next t) :
    (s.muxState = .showDigit2 ∧ t = { s with
      sel2 := false
      seg := (segPattern s.params.segTable s.drawCount s.dig1).1
      sel1 := true
      muxState := .showDigit1
      outs := [.desel .two, .segw (segPattern s.params.segTable s.drawCount s.dig1).1, .sela .one]
      drawCount := (segPattern s.params.segTable s.drawCount s.dig1).2 }) ∨
    (s.muxState = .showDigit1 ∧ t = { s with
      sel1 := false
      seg := (segPattern s.params.segTable s.drawCount s.dig2).1
      sel2 := true
      muxState := .showDigit2
      outs := [.desel .one, .segw (segPattern s.params.segTable s.drawCount s.dig2).1, .sela .two]
      drawCount := (segPattern s.params.segTable s.drawCount s.dig2).2 }) := by
  unfold switchDigit at h
  split at h <;> simp_all [accept_next, State.emit]

theorem execTick_cases {s t : State} (h : execTick s = .next t) :
    (s.muxEn = true ∧ switchDigit s = .next t) ∨ (s.muxEn = false ∧ t = { s with outs := [] }) :=
  whenEnabled_next.1 h

theorem execEdge_cases {s t : State} (h : execEdge s = .next t) :
    (s.debEn = true ∧ s.debState = .armed ∧ t = { s with debState := .settling, outs := [.ostart] }) ∨
    ((s.debEn = false ∨ s.debState = .settling) ∧ t = { s with outs := [] }) := by
  rcases whenEnabled_next.1 h with ⟨he, h⟩ | ⟨he, h⟩
  · unfold onEdge at h
    split at h <;> simp_all [accept_next, ignore_next, State.emit]
  · exact .inr ⟨.inl he, h⟩

theorem execDebexp_cases {level : BitVec 1} {s t : State} (h : execDebexp level s = .next t) :
    ((s.debEn = false ∨ s.debState = .armed) ∧ t = { s with outs := [] }) ∨
    (s.debEn = true ∧ s.debState = .settling ∧
      ((pressed level = true ∧ s.params.debounceAction = .triggerSample ∧
          t = { s with debState := .armed, outs := [.adcgo] }) ∨
       (pressed level = true ∧ s.params.debounceAction = .toggleIndicator ∧
          t = { s with indicator := !s.indicator, debState := .armed, outs := [] }) ∨
       (pressed level = false ∧ t = { s with debState := .armed, outs := [] }))) := by
  rcases whenEnabled_next.1 h with ⟨he, h⟩ | ⟨he, h⟩
  · unfold onExpiry at h
    split at h
    · simp_all [ignore_next, State.emit]
    · split at h
      · split at h <;> simp_all [accept_next, State.emit]
      · simp_all [accept_next, State.emit]
  · exact .inl ⟨.inl he, h⟩

theorem execConv_cases {raw : BitVec 12} {s t : State} (h : execConv raw s = .next t) :
    (raw.toNat < s.params.rawFullScale ∧ s.adcEn = true ∧
      t = { s with sample := raw, cmpShadow := BitVec.ofNat 16 (duty s.params raw.toNat), outs := [] }) ∨
    (raw.toNat < s.params.rawFullScale ∧ s.adcEn = false ∧ t = { s with outs := [] }) ∨
    (¬raw.toNat < s.params.rawFullScale ∧ t = s.refuse .payloadOutOfRange) := by
  unfold execConv at h
  split at h
  · rcases whenEnabled_next.1 h with ⟨he, h⟩ | ⟨he, h⟩
    · exact .inl ⟨‹_›, he, by simpa [convert, accept_next, State.emit] using h⟩
    · exact .inr (.inl ⟨‹_›, he, h⟩)
  · exact .inr (.inr ⟨‹_›, refuseWord_next.1 h⟩)

theorem execPwmpb_next {s t : State} : execPwmpb s = .next t ↔ t = { s with cmpActive := s.cmpShadow, outs := [] } :=
  accept_next

theorem execBcdpub_next {n : BitVec 16} {s t : State} : execBcdpub n s = .next t ↔ t = { s with
    dig1 := (bcdDigits s.params.bcdOverrange s.drawCount n).1.tens.setWidth 8
    dig2 := (bcdDigits s.params.bcdOverrange s.drawCount n).1.units.setWidth 8
    outs := []
    drawCount := (bcdDigits s.params.bcdOverrange s.drawCount n).2 } :=
  accept_next

theorem execCtrlw_next {en : BitVec 5} {s t : State} : execCtrlw en s = .next t ↔ t = { s with ctrl := en, outs := [] } :=
  accept_next

/-- A step is a pause, the event its word decodes to, or the refusal of its word. -/
theorem step_cases {s t : State} (h : step s = .next t) :
    (s.input = [] ∧ t = s.emit []) ∨
    (∃ w rest i, s.input = w :: rest ∧ decode s.params w = .ok i ∧ exec i (s.awaiting rest) = .next t) ∨
    (∃ w rest r, s.input = w :: rest ∧ decode s.params w = .error r ∧ t = (s.awaiting rest).refuse r) := by
  cases hi : s.input with
  | nil => exact .inl ⟨rfl, by simpa [step, hi, State.idle, eq_comm] using h⟩
  | cons w rest =>
    simp only [step, takeEvent_cons hi, State.awaiting_params] at h
    cases hd : decode s.params w with
    | ok i => exact .inr (.inl ⟨w, rest, i, rfl, hd, by simpa [hd] using h⟩)
    | error r => exact .inr (.inr ⟨w, rest, r, rfl, hd, by simpa [hd, refuseWord_next] using h⟩)

end Sys2Proof.Machine
end

