-- ==== Sys2Proof/Laws/Operands.lean ====
section
/-! SUPPORT. Small laws of the lookup and encoding functions. -/

namespace Sys2Proof.Machine

/-- A lookup either reads the table and draws nothing, or draws once. -/
theorem segPattern_cases (t : SegTable) (k : Nat) (d : Byte) :
    (∃ q, segEntry t d = some q ∧ segPattern t k d = (q, k)) ∨
    (segEntry t d = none ∧ segPattern t k d = (Config.draw7 k, k + 1)) := by
  unfold segPattern
  cases h : segEntry t d <;> simp

/-- The digits of BCDPUB are the algorithm's, or two draws. -/
theorem bcdDigits_cases (o : BcdOverrange) (k : Nat) (n : BitVec 16) :
    ((o = .algorithm ∨ n.toNat ≤ 99) ∧ bcdDigits o k n = (bcd16 n, k)) ∨
    ((o = .draw ∧ 99 < n.toNat) ∧ bcdDigits o k n = (⟨Config.draw4 k, Config.draw4 (k + 1)⟩, k + 2)) := by
  cases o with
  | algorithm => simp [bcdDigits]
  | draw =>
    by_cases h : 99 < n.toNat
    · simp [bcdDigits, h]
    · simp [bcdDigits, h]; omega

theorem bcdLoop_zero (n : BitVec 16) (a : BcdAcc) : bcdLoop n 0 a = a := rfl

theorem bcdLoop_succ (n : BitVec 16) (k : Nat) (a : BcdAcc) :
    bcdLoop n (k + 1) a = bcdLoop n k (bcdIterate a (n.getLsbD k)) := rfl

theorem pressed_iff (level : BitVec 1) : pressed level = true ↔ level = 0 := by simp [pressed]

end Sys2Proof.Machine
end

