-- ==== Sys2Proof/Laws/PerInstr.lean ====
section
/-! SUPPORT. The shape of every event's word (30_encoding.md R70), stated per event: OP is its code, RSV is 0, PAY is its
payload. -/

namespace Sys2Proof.Laws.EventWordShape

/-- The three fields of the event's word. -/
def Statement (i : Instr) : Prop :=
  opField (encode i) = eventBits (codeOf i) ∧ rsvField (encode i) = 0 ∧ payField (encode i) = payloadOf i

/-- The fields of any word put together from its three parts. -/
theorem fields_of_parts (a : BitVec 4) (b : BitVec 12) (c : BitVec 16) :
    opField (a ++ b ++ c) = a ∧ rsvField (a ++ b ++ c) = b ∧ payField (a ++ b ++ c) = c := by
  refine ⟨?_, ?_, ?_⟩ <;> ext j hj <;>
    simp only [opField, rsvField, payField, BitVec.getElem_extractLsb', BitVec.getLsbD_append]
  · rw [if_neg (by omega), if_neg (by omega), ← BitVec.getLsbD_eq_getElem hj]; congr 1; omega
  · rw [if_neg (by omega), if_pos (by omega), ← BitVec.getLsbD_eq_getElem hj]; congr 1; omega
  · rw [if_pos (by omega), Nat.zero_add, ← BitVec.getLsbD_eq_getElem hj]

theorem rxb (byte : Byte) : Statement (.rxb byte) := fields_of_parts _ _ _
theorem txrdy : Statement .txrdy := fields_of_parts _ _ _
theorem arm : Statement .arm := fields_of_parts _ _ _
theorem tick : Statement .tick := fields_of_parts _ _ _
theorem edge : Statement .edge := fields_of_parts _ _ _
theorem debexp (level : BitVec 1) : Statement (.debexp level) := fields_of_parts _ _ _
theorem conv (raw : BitVec 12) : Statement (.conv raw) := fields_of_parts _ _ _
theorem pwmpb : Statement .pwmpb := fields_of_parts _ _ _
theorem bcdpub (n : BitVec 16) : Statement (.bcdpub n) := fields_of_parts _ _ _
theorem ctrlw (en : BitVec 5) : Statement (.ctrlw en) := fields_of_parts _ _ _

end Sys2Proof.Laws.EventWordShape
end

