-- ==== Sys2Proof/Tests/Slice0.lean ====
section
/-! SUPPORT. Tests by evaluation: words written out from 30_encoding.md R72, vectors of 95_test_vectors.md (named in each
comment), the well-formedness smoke test, and for each statement with hypotheses a state that meets them. -/

namespace Sys2Proof.Tests

open Sys2Proof.Machine

/-- The outcome of a step, as a state. -/
def stepped (s : State) : State :=
  match step s with
  | .next t => t
  | .fault _ => s
  | .refused _ => s

/-- A state in which every unit can act: a packet flagged, the given receive and transmit states, Settling. -/
def busy (rx : RxState) (tx : TxState) : State :=
  { State.reset with rxState := rx, win0 := 0x32, win1 := 0x35, pktFlag := true, txState := tx, debState := .settling }

/-- The default parameters with these two settings. -/
def withSettings (a : DebounceAction) (o : BcdOverrange) : Params :=
  { paramsDefault with debounceAction := a, bcdOverrange := o }

/-- The default parameters at another resolution and period. -/
def withMapping (r : AdcRes) (top : Fin 65536) : Params := { paramsDefault with adcRes := r, pwmTop := top }

/-! ### The well-formedness smoke test (30_encoding.md R73: `raw < 2^ADC_RES`) -/

theorem test_wellFormed_conv_top : wellFormed paramsDefault (.conv 1023) = true := by decide
theorem test_wellFormed_refuses_conv : wellFormed paramsDefault (.conv 1024) = false := by decide
theorem test_wellFormed_conv_8bit : wellFormed (withMapping .bits8 0) (.conv 256) = false := by decide

/-! ### Decoding: one word of each event, OP RSV PAY written out bit by bit, and the refusals DEC-1 to DEC-17 -/

theorem test_decode_rxb : decode paramsDefault 0b0001_000000000000_00000000_11111111 = .ok (.rxb 0xFF) := by rfl
theorem test_decode_txrdy : decode paramsDefault 0b0010_000000000000_0000000000000000 = .ok .txrdy := by rfl
theorem test_decode_arm : decode paramsDefault 0b0011_000000000000_0000000000000000 = .ok .arm := by rfl
theorem test_decode_tick : decode paramsDefault 0b0100_000000000000_0000000000000000 = .ok .tick := by rfl
theorem test_decode_edge : decode paramsDefault 0b0101_000000000000_0000000000000000 = .ok .edge := by rfl
theorem test_decode_debexp : decode paramsDefault 0b0110_000000000000_000000000000000_1 = .ok (.debexp 1) := by rfl
theorem test_decode_conv : decode paramsDefault 0b0111_000000000000_0000_001111111111 = .ok (.conv 1023) := by rfl
theorem test_decode_pwmpb : decode paramsDefault 0b1000_000000000000_0000000000000000 = .ok .pwmpb := by rfl
theorem test_decode_bcdpub : decode paramsDefault 0b1001_000000000000_1111111111111111 = .ok (.bcdpub 65535) := by rfl
theorem test_decode_ctrlw : decode paramsDefault 0b1010_000000000000_00000000000_11110 = .ok (.ctrlw 0b11110) := by rfl

/-- DEC-1 to DEC-3. -/
theorem test_decode_reserved_opcodes :
    decode paramsDefault 0x00000000 = .error .reservedOpcode ∧
    decode paramsDefault 0xB0000000 = .error .reservedOpcode ∧
    decode paramsDefault 0xF0000000 = .error .reservedOpcode := ⟨rfl, rfl, rfl⟩

/-- DEC-4, DEC-5: the RSV test comes first. -/
theorem test_decode_reserved_bits :
    decode paramsDefault 0x10010073 = .error .reservedBitsSet ∧
    decode paramsDefault 0xB0010000 = .error .reservedBitsSet := ⟨rfl, rfl⟩

/-- DEC-6 to DEC-9, DEC-13, DEC-14. -/
theorem test_decode_payload_rules :
    decode paramsDefault 0x10000100 = .error .payloadOutOfRange ∧
    decode paramsDefault 0x20000001 = .error .payloadOutOfRange ∧
    decode paramsDefault 0x60000002 = .error .payloadOutOfRange ∧
    decode paramsDefault 0x70000400 = .error .payloadOutOfRange ∧
    decode paramsDefault 0x70001000 = .error .payloadOutOfRange ∧
    decode paramsDefault 0xA0000020 = .error .payloadOutOfRange := ⟨rfl, rfl, rfl, rfl, rfl, rfl⟩

/-- DEC-11, DEC-12: the sample range follows ADC_RES. -/
theorem test_decode_resolution :
    decode (withMapping .bits8 0) 0x70000100 = .error .payloadOutOfRange ∧
    decode (withMapping .bits12 0) 0x70000FFF = .ok (.conv 4095) := ⟨rfl, rfl⟩

theorem test_decodeTableWord : decodeTableWord 32 0x9000002A = some (.bcdpub 42) ∧ decodeTableWord 32 0 = none := by decide

/-! ### Steps: vectors of 95_test_vectors.md -/

/-- EX-3a from reset, delivered as a word. -/
theorem test_step_runs_word : (stepped (State.reset.withFetchWord 32 0x10000073)).rxState = .gotStart := by decide

/-- Section 3.1: a refused word is not counted as a candidate, and the mark stays. -/
theorem test_step_refusal :
    (stepped ({ State.reset with rxState := .gotStart }.withFetchWord 32 0x10000100)).rxState = .gotStart ∧
    (stepped ({ State.reset with rxState := .gotStart }.withFetchWord 32 0x10000100)).mark = ⟨false, false, true⟩ := by
  decide

/-- EX-3e. -/
theorem test_rxb_accepts :
    ((after (.rxb 0x74) (busy .gotDigit2 .idle)).dig1, (after (.rxb 0x74) (busy .gotDigit2 .idle)).dig2) = (2, 5) ∧
    (after (.rxb 0x74) { busy .gotDigit2 .idle with pktFlag := false }).pktFlag = true := by decide

/-- EX-3f: the 0x73 that rejects a frame starts none. -/
theorem test_rxb_rejects : (after (.rxb 0x73) (busy .gotDigit2 .idle)).rxState = .idle := by decide

/-- RX-7: the frames of `s s 2 5 t`, and of `s s 2 t` (RX-6). -/
theorem test_frames :
    frames [0x73, 0x73, 0x32, 0x35, 0x74] = [] ∧ frames [0x73, 0x73, 0x32, 0x74] = [(0x73, 0x32)] := by decide

/-- TX-7: ARM during an echo does nothing. -/
theorem test_arm_busy : (after .arm (busy .idle .sendEnd)).pktFlag = true ∧ (after .arm (busy .idle .sendEnd)).outs = [] := by
  decide

/-- TX-1, first step. -/
theorem test_arm_starts : (after .arm (busy .idle .idle)).outs = [.txd 0x73] := by decide

/-- TX-1: the raw candidates and the end symbol. -/
theorem test_txrdy_bytes :
    (after .txrdy (busy .idle .sendDigit1)).outs = [.txd 0x32] ∧
    (after .txrdy (busy .idle .sendDigit2)).outs = [.txd 0x35] ∧
    (after .txrdy (busy .idle .sendEnd)).outs = [.txd 0x74] := by decide

/-- TX-4: gated, frozen. -/
theorem test_txrdy_gated : (after .txrdy { busy .idle .sendDigit1 with ctrl := 0b11101 }).txState = .sendDigit1 := by decide

/-- MUX-1. -/
theorem test_tick_first :
    (after .tick { State.reset with dig1 := 2, dig2 := 5 }).outs = [.desel .two, .segw 0x5B, .sela .one] := by decide

/-- MUX-5. -/
theorem test_tick_second :
    (after .tick { State.reset with muxState := .showDigit1, dig2 := 8 }).outs =
      [.desel .one, .segw 0x7F, .sela .two] := by decide

/-- DEB-1 and DEB-7's last EDGE. -/
theorem test_edge :
    (after .edge State.reset).outs = [.ostart] ∧ (after .edge (busy .idle .idle)).outs = [] := by decide

/-- DEB-2, DEB-3: the last step of each. -/
theorem test_debexp_trigger :
    (after (.debexp 0) (busy .idle .idle)).outs = [.adcgo] ∧ (after (.debexp 1) (busy .idle .idle)).outs = [] ∧
    (after (.debexp 1) (busy .idle .idle)).debState = .armed := by decide

/-- DEB-5. -/
theorem test_debexp_toggle :
    (after (.debexp 0) { busy .idle .idle with params := withSettings .toggleIndicator .algorithm }).indicator = true := by
  decide

/-- PWM-5, PWM-1. -/
theorem test_conv :
    (after (.conv 512) State.reset).cmpShadow = 500 ∧ (after (.conv 1023) State.reset).cmpShadow = 999 ∧
    (after (.conv 512) State.reset).cmpActive = 0 := by decide

/-- PWM-2: the product for 4095 needs 28 bits; PWM-3, PWM-4. -/
theorem test_duty :
    duty (withMapping .bits12 65535) 4095 = 65520 ∧ duty (withMapping .bits8 999) 255 = 996 ∧
    duty (withMapping .bits8 0) 255 = 0 := by decide

/-- PWM-8: PWMPB acts with every source disabled. -/
theorem test_pwmpb : (after .pwmpb { State.reset with cmpShadow := 500, ctrl := 0 }).cmpActive = 500 := by decide

/-- BCD-4, BCD-5, BCD-6, BCD-8, BCD-10. -/
theorem test_bcd16 :
    bcd16 42 = ⟨4, 2⟩ ∧ bcd16 99 = ⟨9, 9⟩ ∧ bcd16 100 = ⟨0, 0⟩ ∧ bcd16 255 = ⟨5, 5⟩ ∧ bcd16 65535 = ⟨3, 5⟩ := by decide +kernel

/-- CTL-3, third event. -/
theorem test_bcdpub : (after (.bcdpub 7) { State.reset with ctrl := 0 }).dig2 = 7 := by decide +kernel

/-- CTL-1. -/
theorem test_ctrlw : (after (.rxb 0x73) (after (.ctrlw 0b11110) State.reset)).rxState = .idle := by decide

/-- 30_encoding.md R75, R76: one line of each kind of operand, a comment and a pseudo-event with an escape. -/
theorem test_script :
    Script.scriptWords ['R', 'X', 'B', ' ', Char.ofNat 39, 's', Char.ofNat 39, ';', 'x', '\n', 'C', 'O', 'N', 'V', ' ', '5', '1', '2'] =
      some [0x10000073, 0x70000200] ∧
    Script.scriptWords ['R', 'X', 'S', ' ', Char.ofNat 34, 't', '\\', 'x', '4', '1', Char.ofNat 34] =
      some [0x10000074, 0x10000041] ∧
    Script.scriptWords ['C', 'T', 'R', 'L', 'W', ' ', '0', 'b', '1', '1', '\n', 'P', 'R', 'E', 'S', 'S', ' ', '1'] =
      some [0xA0000003, 0x50000000, 0x60000001] := by decide

/-! ### Witnesses: for each statement with hypotheses, values that meet all of them together, clause by clause -/

theorem test_wit_StepKeepsInvariants :
    StateInv (State.reset.withFetchWord 32 0x700003FF) ∧
    step (State.reset.withFetchWord 32 0x700003FF) = .next (stepped (State.reset.withFetchWord 32 0x700003FF)) :=
  ⟨by decide, rfl⟩

/-- The largest legal sample, for DecodeOfEncode and EncodeOfDecode. -/
theorem test_wit_DecodeOfEncode_EncodeOfDecode :
    wellFormed paramsDefault (.conv 1023) = true ∧ decode paramsDefault 0x700003FF = .ok (.conv 1023) :=
  ⟨by decide, rfl⟩

theorem test_wit_SelectLinesFollowFirstTick :
    along noTick [.edge, .ctrlw 0b11011, .tick] (State.resetWith paramsDefault) = true ∧
    along noTick [.tick] (State.resetWith paramsDefault) = false := by decide

theorem test_wit_StepKeepsDisplayShape :
    Dark (State.reset.withFetchWord 32 0x40000000) ∧
    Lit ((after .tick State.reset).withFetchWord 32 0x40000000) ∧
    step (State.reset.withFetchWord 32 0x40000000) = .next (stepped (State.reset.withFetchWord 32 0x40000000)) :=
  ⟨by decide, by decide, rfl⟩

theorem test_wit_EventsByMatchAndMask :
    (0xB0000000 : EventWord) &&& 0xF0000000 = 0xB0000000 ∧ (0xFFFFFFFF : EventWord) &&& 0xF0000000 = 0xF0000000 ∧
    (0x00000001 : EventWord) &&& 0xF0000000 = 0x00000000 := by decide

/-- The codes 0, 1, 10, 11 and 15, the RSV field at 0 and not, and a refused word at the head of the input. -/
theorem test_wit_DecodeTestsInOrder :
    (0x10010073 : EventWord).extractLsb' 16 12 ≠ 0 ∧ (0x10000073 : EventWord).extractLsb' 16 12 = 0 ∧
    ((0x00000000 : EventWord).extractLsb' 28 4).toNat = 0 ∧ ((0x10000073 : EventWord).extractLsb' 28 4).toNat = 1 ∧
    ((0xA000001F : EventWord).extractLsb' 28 4).toNat = 10 ∧ ((0xB0000000 : EventWord).extractLsb' 28 4).toNat = 11 ∧
    ((0xF0000000 : EventWord).extractLsb' 28 4).toNat = 15 ∧
    (State.reset.withFetchWord 32 0xB0000000).input = 0xB0000000 :: [] := by decide

/-- For RefusalIsStickyAndInert, StepEndsInOneOfTwoWays, ParametersNeverChange and OneWordPerStep. -/
theorem test_wit_refused_step :
    (State.reset.withFetchWord 32 0xF0000000).input = 0xF0000000 :: [] ∧
    decode (State.reset.withFetchWord 32 0xF0000000).params 0xF0000000 = .error .reservedOpcode ∧
    step (State.reset.withFetchWord 32 0xF0000000) = .next (stepped (State.reset.withFetchWord 32 0xF0000000)) ∧
    (stepped (State.reset.withFetchWord 32 0xF0000000)).mark.reservedOpcode = true :=
  ⟨by decide, rfl, rfl, by decide⟩

theorem test_wit_StepRunsDecodedEvent :
    (State.reset.withFetchWord 32 0x40000000).input = 0x40000000 :: [] ∧
    decode (State.reset.withFetchWord 32 0x40000000).params 0x40000000 = .ok .tick := ⟨by decide, rfl⟩

theorem test_wit_StepWithoutEventHolds : State.reset.input = [] := by decide

/-- For the statements whose hypothesis is `exec i s = .next t` (ParametersNeverChange, the three last clauses but one of
GatingMap, OnlyListedEventsWriteElement, OnlyListedEventsEmitAction, ActionsDriveWhatLatchesHold, AtMostOneBytePerStep,
OutputOnlyElementsNeverRead, TriggerSourceChangesNothing): every event, in a state where it acts. -/
theorem test_wit_exec_next :
    exec (.rxb 0x74) (busy .gotDigit2 .idle) = .next (after (.rxb 0x74) (busy .gotDigit2 .idle)) ∧
    exec .txrdy (busy .idle .sendEnd) = .next (after .txrdy (busy .idle .sendEnd)) ∧
    exec .arm (busy .idle .idle) = .next (after .arm (busy .idle .idle)) ∧
    exec .tick State.reset = .next (after .tick State.reset) ∧
    exec .edge State.reset = .next (after .edge State.reset) ∧
    exec (.debexp 0) (busy .idle .idle) = .next (after (.debexp 0) (busy .idle .idle)) ∧
    exec (.conv 1023) State.reset = .next (after (.conv 1023) State.reset) ∧
    exec .pwmpb State.reset = .next (after .pwmpb State.reset) ∧
    exec (.bcdpub 100) State.reset = .next (after (.bcdpub 100) State.reset) ∧
    exec (.ctrlw 0) State.reset = .next (after (.ctrlw 0) State.reset) :=
  ⟨rfl, rfl, rfl, rfl, rfl, rfl, rfl, rfl, rfl, rfl⟩

theorem test_wit_GatingMap :
    (after (.ctrlw 0) State.reset).ctrl.getLsbD 0 = false ∧ (after (.ctrlw 0) State.reset).ctrl.getLsbD 1 = false ∧
    (after (.ctrlw 0) State.reset).ctrl.getLsbD 2 = false ∧ (after (.ctrlw 0) State.reset).ctrl.getLsbD 3 = false ∧
    (after (.ctrlw 0) State.reset).ctrl.getLsbD 4 = false ∧ (1023 : BitVec 12).toNat < 2 ^ paramsDefault.adcRes.bits := by
  decide

theorem test_wit_RxbTransitions :
    State.reset.ctrl.getLsbD 0 = true ∧ { State.reset with ctrl := 0b11110 }.ctrl.getLsbD 0 = false ∧
    State.reset.rxState = .idle ∧ (busy .gotStart .idle).rxState = .gotStart ∧
    (busy .gotDigit1 .idle).rxState = .gotDigit1 ∧ (busy .gotDigit2 .idle).rxState = .gotDigit2 ∧
    (busy .gotDigit2 .idle).ctrl.getLsbD 0 = true ∧ (0x74 : Byte) ≠ 0x73 := by decide

theorem test_wit_DigitDecodingWraps :
    (0x30 : Byte).toNat = 0x30 ∧ 0x30 ≤ (0x39 : Byte).toNat ∧ (0x39 : Byte).toNat ≤ 0x39 := by decide

theorem test_wit_ArmStartsEcho :
    ((busy .idle .idle).pktFlag = true ∧ (busy .idle .idle).txState = .idle) ∧
    (State.reset.pktFlag = false ∨ State.reset.txState ≠ .idle) ∧
    ((busy .idle .sendEnd).pktFlag = false ∨ (busy .idle .sendEnd).txState ≠ .idle) := by decide

theorem test_wit_TxrdySendsNextByte :
    (busy .idle .idle).ctrl.getLsbD 1 = true ∧ { State.reset with ctrl := 0b11101 }.ctrl.getLsbD 1 = false ∧
    (busy .idle .idle).txState = .idle ∧ (busy .idle .sendDigit1).txState = .sendDigit1 ∧
    (busy .idle .sendDigit2).txState = .sendDigit2 ∧ (busy .idle .sendEnd).txState = .sendEnd := by decide

theorem test_wit_SegmentLookup : 9 < (10 : Byte).toNat ∧ 9 < (255 : Byte).toNat := by decide

theorem test_wit_TickSwitchesDigit :
    State.reset.ctrl.getLsbD 2 = true ∧ { State.reset with ctrl := 0b11011 }.ctrl.getLsbD 2 = false ∧
    State.reset.muxState = .showDigit2 ∧
    segPattern State.reset.params.segTable State.reset.drawCount State.reset.dig1 = (0x3F, 0) ∧
    (after .tick State.reset).muxState = .showDigit1 := by decide

theorem test_wit_EdgeStartsTimer :
    State.reset.ctrl.getLsbD 3 = true ∧ { State.reset with ctrl := 0b10111 }.ctrl.getLsbD 3 = false ∧
    State.reset.debState = .armed ∧ (busy .idle .idle).debState = .settling ∧
    (busy .idle .idle).ctrl.getLsbD 3 = true := by decide

theorem test_wit_ExpiryActsAndRearms :
    (busy .idle .idle).ctrl.getLsbD 3 = true ∧ (busy .idle .idle).debState = .settling ∧
    (busy .idle .idle).params.debounceAction = .triggerSample ∧
    (withSettings .toggleIndicator .algorithm).debounceAction = .toggleIndicator ∧
    State.reset.debState = .armed ∧ State.reset.ctrl.getLsbD 3 = true := by decide

theorem test_wit_ConvWritesSampleAndShadow :
    (1023 : BitVec 12).toNat < 2 ^ State.reset.params.adcRes.bits ∧ State.reset.ctrl.getLsbD 4 = true ∧
    { State.reset with ctrl := 0b01111 }.ctrl.getLsbD 4 = false ∧
    2 ^ State.reset.params.adcRes.bits ≤ (1024 : BitVec 12).toNat := by decide

theorem test_wit_DutyMonotoneAndBounded : 0 ≤ 1023 ∧ 1023 < paramsDefault.rawFullScale := by decide

theorem test_wit_CompareWaitsForBoundary : along noBoundary [.conv 512, .tick] State.reset = true := by decide

/-- For BcdpubPublishesDigits and BcdOverrangeSettings: both sides of 99. -/
theorem test_wit_BcdpubPublishesDigits :
    State.reset.params.bcdOverrange = .algorithm ∧ (withSettings .triggerSample .draw).bcdOverrange = .draw ∧
    (99 : BitVec 16).toNat ≤ 99 ∧ 99 < (100 : BitVec 16).toNat := by decide

theorem test_wit_OnlyListedEventsWriteElement :
    codeOf .pwmpb ≠ .rxb ∧ codeOf .pwmpb ≠ .bcdpub ∧ codeOf .pwmpb ≠ .arm ∧ codeOf .pwmpb ≠ .txrdy ∧
    codeOf .pwmpb ≠ .tick ∧ codeOf .pwmpb ≠ .edge ∧ codeOf .pwmpb ≠ .debexp ∧ codeOf .pwmpb ≠ .conv ∧
    codeOf .pwmpb ≠ .ctrlw ∧ codeOf (.conv 0) ≠ .pwmpb := by decide

theorem test_wit_OnlyListedEventsEmitAction :
    Action.txd 0x73 ∈ (after .arm (busy .idle .idle)).outs ∧ Action.desel .two ∈ (after .tick State.reset).outs ∧
    Action.segw 0x3F ∈ (after .tick State.reset).outs ∧ Action.sela .one ∈ (after .tick State.reset).outs ∧
    Action.ostart ∈ (after .edge State.reset).outs ∧ Action.adcgo ∈ (after (.debexp 0) (busy .idle .idle)).outs := by
  decide

theorem test_wit_StatusPortShowsEveryElement :
    (∀ e : Element, State.reset.status e = ({ State.reset with drawCount := 1 } : State).status e) ∧
    (busy .gotDigit2 .sendEnd).rxState = .gotDigit2 ∧ (busy .gotDigit2 .sendEnd).txState = .sendEnd ∧
    (busy .gotDigit2 .sendEnd).muxState = .showDigit2 ∧ (busy .gotDigit2 .sendEnd).debState = .settling :=
  ⟨by intro e; cases e <;> rfl, rfl, rfl, rfl, rfl⟩

theorem test_wit_SwitchingShowsNoGlitch :
    (Dark State.reset ∨ Lit State.reset) ∧ exec .tick State.reset = .next (after .tick State.reset) ∧
    (after .tick State.reset).outs = [.desel .two] ++ .segw 0x3F :: [.sela .one] :=
  ⟨by decide, rfl, by decide⟩

theorem test_wit_TwoTicksShowEachDigitOnce :
    State.reset.muxEn = true ∧ along noTick [.rxb 0x73] (after .tick State.reset) = true ∧
    (runTo [.rxb 0x73] (after .tick State.reset)).muxEn = true := by decide

theorem test_wit_PublicationsAreFrames :
    State.reset.rxState = .idle ∧
    frames (ungatedBytes State.reset.ctrl [.rxb 0x73, .rxb 0x32, .ctrlw 0b11110, .rxb 0x37, .ctrlw 0b11111, .rxb 0x35, .rxb 0x74]) =
      [(0x32, 0x35)] := by decide

theorem test_wit_SecondPacketOverwrites :
    (busy .idle .idle).ctrl.getLsbD 0 = true ∧ (busy .idle .idle).rxState = .idle ∧ (busy .idle .idle).pktFlag = true := by
  decide

/-- A gap of each allowed kind: a TXRDY in Idle, a byte in Idle, a byte in GotStart once WIN0 is sent. -/
theorem test_wit_EchoReturnsAcceptedPacket :
    (busy .idle .idle).pktFlag = true ∧ (busy .idle .idle).txState = .idle ∧
    along noEchoStart [.txrdy] (busy .idle .idle) = true ∧ (runTo [.txrdy] (busy .idle .idle)).txState = .idle ∧
    along (noByteIn .gotStart) [.txrdy] (busy .idle .idle) = true ∧
    along (noByteIn .gotDigit1) [.txrdy] (busy .idle .idle) = true ∧
    along noTxrdy [.rxb 0x73] (after .arm (runTo [.txrdy] (busy .idle .idle))) = true ∧
    along (noByteIn .gotStart) [.rxb 0x73] (after .arm (runTo [.txrdy] (busy .idle .idle))) = true ∧
    along (noByteIn .gotDigit1) [.rxb 0x73] (after .arm (runTo [.txrdy] (busy .idle .idle))) = true ∧
    (runTo [.txrdy, .arm, .rxb 0x73] (busy .idle .idle)).txEn = true ∧
    along noTxrdy [.rxb 0x39] (runTo [.txrdy, .arm, .rxb 0x73, .txrdy] (busy .idle .idle)) = true ∧
    along (noByteIn .gotDigit1) [.rxb 0x39] (runTo [.txrdy, .arm, .rxb 0x73, .txrdy] (busy .idle .idle)) = true ∧
    (runTo [.txrdy, .arm, .rxb 0x73, .txrdy, .rxb 0x39] (busy .idle .idle)).txEn = true ∧
    along noTxrdy [.arm] (runTo [.txrdy, .arm, .rxb 0x73, .txrdy, .rxb 0x39, .txrdy] (busy .idle .idle)) = true ∧
    (runTo [.txrdy, .arm, .rxb 0x73, .txrdy, .rxb 0x39, .txrdy, .arm] (busy .idle .idle)).txEn = true := by decide

/-- The same with an earlier echo in flight at the acceptance, as in program P5: an ignored ARM, then its end symbol. -/
theorem test_wit_EchoReturnsAcceptedPacket_in_flight :
    (busy .gotDigit2 .sendEnd).ctrl.getLsbD 0 = true ∧ (busy .gotDigit2 .sendEnd).rxState = .gotDigit2 ∧
    (after (.rxb 0x74) (busy .gotDigit2 .sendEnd)).pktFlag = true ∧
    along noEchoStart [.arm, .txrdy] (after (.rxb 0x74) (busy .gotDigit2 .sendEnd)) = true ∧
    along (noByteIn .gotStart) [.arm, .txrdy] (after (.rxb 0x74) (busy .gotDigit2 .sendEnd)) = true ∧
    along (noByteIn .gotDigit1) [.arm, .txrdy] (after (.rxb 0x74) (busy .gotDigit2 .sendEnd)) = true ∧
    (runTo [.arm, .txrdy] (after (.rxb 0x74) (busy .gotDigit2 .sendEnd))).txState = .idle ∧
    (runTo [.arm, .txrdy, .arm] (after (.rxb 0x74) (busy .gotDigit2 .sendEnd))).txEn = true ∧
    (runTo [.arm, .txrdy, .arm, .txrdy] (after (.rxb 0x74) (busy .gotDigit2 .sendEnd))).txEn = true ∧
    (runTo [.arm, .txrdy, .arm, .txrdy, .txrdy] (after (.rxb 0x74) (busy .gotDigit2 .sendEnd))).txEn = true := by decide

theorem test_wit_AtMostOneBytePerStep :
    txBytes (after .arm (busy .idle .idle)).outs ≠ [] ∧ txBytes (after .txrdy (busy .idle .sendDigit1)).outs ≠ [] := by
  decide

theorem test_wit_BouncingPressActsOnce : State.reset.ctrl.getLsbD 3 = true ∧ State.reset.debState = .armed := by decide

theorem test_wit_TimerNeverRestarted :
    exec .edge State.reset = .next (after .edge State.reset) ∧ Action.ostart ∈ (after .edge State.reset).outs :=
  ⟨rfl, by decide⟩

/-- An EDGE, a gated expiry and the enable again, as in DEB-7. -/
theorem test_wit_LostExpiryLocksOut :
    (busy .idle .idle).debState = .settling ∧
    along noExpiry [.edge, .ctrlw 0b10111, .debexp 0, .ctrlw 0b11111] (busy .idle .idle) = true := by decide

theorem test_wit_DisabledUnitStaysFrozen :
    along noControl [.rxb 0x73, .txrdy, .tick, .debexp 0, .conv 1] { busy .gotStart .sendDigit1 with ctrl := 0 } = true ∧
    { busy .gotStart .sendDigit1 with ctrl := 0 }.ctrl.getLsbD 0 = false ∧
    { busy .gotStart .sendDigit1 with ctrl := 0 }.ctrl.getLsbD 4 = false ∧
    (busy .gotStart .sendDigit1).txState ≠ .idle := by decide

/-- A PWMPB loads 9 from CMP_SHADOW, whatever CMP_ACTIVE and SAMPLE held. -/
theorem test_wit_OutputOnlyElementsNeverRead :
    exec .pwmpb { State.reset with cmpShadow := 9 } =
      .next { State.reset with cmpShadow := 9, cmpActive := 9 } ∧
    exec .pwmpb { State.reset with cmpShadow := 9, cmpActive := 5, sample := 7 } =
      .next { State.reset with cmpShadow := 9, cmpActive := 9, sample := 7 } := ⟨rfl, rfl⟩

theorem test_wit_RepeatedEventsIdempotent :
    (State.reset.pktFlag = false ∨ State.reset.txState ≠ .idle) ∧ State.reset.txState = .idle ∧
    State.reset.params.bcdOverrange = .algorithm := by decide

theorem test_wit_PriorityServesHighestFirst :
    (EventPriority.fixed [.edge, .rxb, .txrdy, .arm, .tick, .debexp, .conv, .pwmpb, .bcdpub, .ctrlw]).legal = true ∧
    maySelect (.fixed [.edge, .rxb, .txrdy, .arm, .tick, .debexp, .conv, .pwmpb, .bcdpub, .ctrlw]) [.tick, .edge] .edge = true ∧
    maySelect (.fixed [.edge, .rxb, .txrdy, .arm, .tick, .debexp, .conv, .pwmpb, .bcdpub, .ctrlw]) [.tick, .edge] .tick = false := by
  decide

/-- Two pending bytes, of one code, and an event of the highest code that is not pending. -/
theorem test_wit_PriorityServesHighestFirst_one_code :
    maySelect (.fixed [.edge, .rxb, .txrdy, .arm, .tick, .debexp, .conv, .pwmpb, .bcdpub, .ctrlw]) [.rxb 1, .tick, .rxb 2] (.rxb 1) = true ∧
    maySelect (.fixed [.edge, .rxb, .txrdy, .arm, .tick, .debexp, .conv, .pwmpb, .bcdpub, .ctrlw]) [.rxb 1, .tick, .rxb 2] (.rxb 2) = true ∧
    maySelect (.fixed [.edge, .rxb, .txrdy, .arm, .tick, .debexp, .conv, .pwmpb, .bcdpub, .ctrlw]) [.rxb 1, .tick, .rxb 2] .edge = false := by
  decide

theorem test_wit_DutiesPreventOverrun :
    mayDeliver true .arm (busy .idle .idle) = true ∧ mayDeliver false .arm (busy .idle .idle) = false ∧
    txBytes (after .arm (busy .idle .idle)).outs ≠ [] := by decide

theorem test_wit_ScriptLinesExpand : (65535 : Nat) < 2 ^ 16 := by decide

/-- The other polarity: the first TICK's pins. -/
theorem test_pins_active_low :
    (after .tick (State.resetWith { paramsDefault with segActiveLow := true, selActiveLow := true })).displayPins =
      ⟨0x40, false, true⟩ := by decide

end Sys2Proof.Tests
end

namespace Sys2Proof.Machine

/-! ### What no event writes: the parameters (00_scope.md R8) and the events still to come -/

/-- `t` belongs to the same run as `s`: it has the parameters of `s`, and the same words are still to come. -/
structure SameRun (s t : State) : Prop where
  params : t.params = s.params
  input : t.input = s.input

theorem receive_sameRun {b : Byte} {s t : State} (h : receive b s = .next t) : SameRun s t := by
  obtain ⟨-, -, rfl⟩ | ⟨-, -, rfl⟩ | ⟨-, rfl⟩ | ⟨-, rfl⟩ | ⟨-, -, rfl⟩ | ⟨-, -, rfl⟩ := receive_cases h
  all_goals exact ⟨rfl, rfl⟩

theorem sendNext_sameRun {s t : State} (h : sendNext s = .next t) : SameRun s t := by
  obtain ⟨-, rfl⟩ | ⟨-, rfl⟩ | ⟨-, rfl⟩ | ⟨-, rfl⟩ := sendNext_cases h
  all_goals exact ⟨rfl, rfl⟩

theorem switchDigit_sameRun {s t : State} (h : switchDigit s = .next t) : SameRun s t := by
  obtain ⟨-, rfl⟩ | ⟨-, rfl⟩ := switchDigit_cases h
  all_goals exact ⟨rfl, rfl⟩

theorem execDebexp_sameRun {level : BitVec 1} {s t : State} (h : execDebexp level s = .next t) : SameRun s t := by
  obtain ⟨-, rfl⟩ | ⟨-, -, ⟨-, -, rfl⟩ | ⟨-, -, rfl⟩ | ⟨-, rfl⟩⟩ := execDebexp_cases h
  all_goals exact ⟨rfl, rfl⟩

theorem execConv_sameRun {raw : BitVec 12} {s t : State} (h : execConv raw s = .next t) : SameRun s t := by
  obtain ⟨-, -, rfl⟩ | ⟨-, -, rfl⟩ | ⟨-, rfl⟩ := execConv_cases h
  all_goals exact ⟨rfl, rfl⟩

/-- Every event stays within the run: a gated meaning either runs or is ignored, the others write listed fields. -/
theorem exec_sameRun {i : Instr} {s t : State} (h : exec i s = .next t) : SameRun s t := by
  cases i with
  | rxb b =>
    obtain ⟨-, h⟩ | ⟨-, rfl⟩ := execRxb_cases h
    · exact receive_sameRun h
    · exact ⟨rfl, rfl⟩
  | txrdy =>
    obtain ⟨-, h⟩ | ⟨-, rfl⟩ := execTxrdy_cases h
    · exact sendNext_sameRun h
    · exact ⟨rfl, rfl⟩
  | arm => obtain ⟨-, rfl⟩ | ⟨-, rfl⟩ := execArm_cases h <;> exact ⟨rfl, rfl⟩
  | tick =>
    obtain ⟨-, h⟩ | ⟨-, rfl⟩ := execTick_cases h
    · exact switchDigit_sameRun h
    · exact ⟨rfl, rfl⟩
  | edge => obtain ⟨-, -, rfl⟩ | ⟨-, rfl⟩ := execEdge_cases h <;> exact ⟨rfl, rfl⟩
  | debexp level => exact execDebexp_sameRun h
  | conv raw => exact execConv_sameRun h
  | pwmpb => obtain rfl := execPwmpb_next.1 h; exact ⟨rfl, rfl⟩
  | bcdpub n => obtain rfl := execBcdpub_next.1 h; exact ⟨rfl, rfl⟩
  | ctrlw en => obtain rfl := execCtrlw_next.1 h; exact ⟨rfl, rfl⟩

/-- A pause, an event and a refusal each keep the parameters; taking the word off the input does too. -/
theorem step_params {s t : State} (h : step s = .next t) : t.params = s.params := by
  obtain ⟨-, rfl⟩ | ⟨w, rest, i, -, -, h⟩ | ⟨w, rest, r, -, -, rfl⟩ := step_cases h
  · exact State.emit_params _ _
  · calc t.params = (s.awaiting rest).params := (exec_sameRun h).params
      _ = s.params := State.awaiting_params _ _
  · rw [State.refuse_params, State.awaiting_params]

/-- Settles O16: no event leaves its run (`exec_sameRun`), and the rest of a step writes no parameter (`step_params`). -/
theorem parametersNeverChange : Obligations.ParametersNeverChange :=
  ⟨fun _ _ _ h => (exec_sameRun h).params, fun _ _ h => step_params h⟩

end Sys2Proof.Machine

/-! ## The polarity mapping at the pins (10_state.md R37) -/

namespace Sys2Proof.Machine

/-- R37's equation for the segment pins; above bit 6 there is no pin, and the complement of a pattern is 0 there. -/
theorem segLevels_getLsbD (p : Params) (v : Pattern) {j : Nat} (hj : j < 7) :
    (segLevels p v).getLsbD j = (v.getLsbD j ^^ p.segActiveLow) := by
  unfold segLevels
  split
  case isTrue low => simp [low, hj]
  case isFalse high => simp [high]

/-- Settles O38: each segment pin by `segLevels_getLsbD`; a select pin's level is the xor as defined, and `SEGW`, `SELA`
and `DESEL` drive through the same two mappings. -/
theorem pinsXorPolarity : Obligations.PinsXorPolarity :=
  ⟨fun s _ hj => segLevels_getLsbD s.params s.seg hj,
   fun _ => ⟨rfl, rfl⟩,
   fun p _ q => ⟨fun _ hj => segLevels_getLsbD p q hj, rfl, rfl, rfl, rfl⟩⟩

end Sys2Proof.Machine

/-! ## The decoder by match and mask (30_encoding.md R72) -/

namespace Sys2Proof

/-! ### A word under a mask, field by field -/

/-- A word is its three fields put together (R70). -/
theorem fields_append (w : EventWord) : opField w ++ rsvField w ++ payField w = w := by
  unfold opField rsvField payField
  rw [BitVec.extractLsb'_append_extractLsb'_eq_extractLsb' (rfl : 28 = 16 + 12),
    BitVec.extractLsb'_append_extractLsb'_eq_extractLsb' (rfl : 16 = 0 + 16), BitVec.extractLsb'_eq_self]

theorem eq_iff_fields {w v : EventWord} :
    w = v ↔ opField w = opField v ∧ rsvField w = rsvField v ∧ payField w = payField v := by
  constructor
  · rintro rfl; exact ⟨rfl, rfl, rfl⟩
  · rintro ⟨hop, hrsv, hpay⟩
    rw [← fields_append w, ← fields_append v, hop, hrsv, hpay]

theorem and_eq_iff_fields {w m v : EventWord} :
    w &&& m = v ↔ opField w &&& opField m = opField v ∧ rsvField w &&& rsvField m = rsvField v ∧
      payField w &&& payField m = payField v := by
  simp only [eq_iff_fields, opField, rsvField, payField, BitVec.extractLsb'_and]

/-- The low `n` bits of `PAY` are the low bits of the word. -/
theorem payField_extractLsb' (w : EventWord) {n : Nat} (hn : n ≤ 16) :
    (payField w).extractLsb' 0 n = w.extractLsb' 0 n :=
  BitVec.extractLsb'_extractLsb'_of_le (by omega)

/-- The bits of a payload from `k` up are 0 exactly when masking with those bits leaves 0. -/
theorem extractLsb'_eq_zero_iff_and {k n : Nat} (hkn : k + n = 16) (pay : BitVec 16) :
    pay.extractLsb' k n = 0 ↔ pay &&& BitVec.allOnes 16 <<< k = 0 := by
  simp only [BitVec.eq_of_getElem_eq_iff, BitVec.getElem_extractLsb', BitVec.getElem_and, BitVec.getElem_shiftLeft,
    BitVec.getElem_allOnes, BitVec.ofNat_eq_ofNat, BitVec.getElem_zero, Bool.and_true]
  constructor
  · intro h j hj
    by_cases hjk : j < k
    · rw [decide_eq_true hjk, Bool.not_true, Bool.and_false]
    · obtain ⟨d, rfl⟩ := Nat.exists_eq_add_of_le (Nat.le_of_not_lt hjk)
      rw [← BitVec.getLsbD_eq_getElem, h d (by omega), Bool.false_and]
  · intro h j hj
    have hbit := h (k + j) (by omega)
    rwa [decide_eq_false (by omega), Bool.not_false, Bool.and_true, ← BitVec.getLsbD_eq_getElem] at hbit

/-! ### The decoder's answer, one fact per part -/

theorem whenLegal_eq_some {legal : Bool} {i j : Instr} : whenLegal legal i = some j ↔ legal = true ∧ i = j := by
  simp [whenLegal]

theorem eventOf_eq_some {op : BitVec 4} {c : EventCode} : eventOf op = some c ↔ op = eventBits c := by
  revert op; cases c <;> decide

theorem codeOf_of_assembleOperands {p : Params} {pay : BitVec 16} {c : EventCode} {i : Instr}
    (h : assembleOperands p pay c = some i) : codeOf i = c := by
  cases c <;> simp only [assembleOperands, whenLegal_eq_some, Option.some.injEq] at h
  case bcdpub => rw [← h, codeOf]
  all_goals rw [← h.2, codeOf]

/-- R71's three tests, for the event they let through. -/
theorem decode_eq_ok {p : Params} {w : EventWord} {i : Instr} :
    decode p w = .ok i ↔ opField w = eventBits (codeOf i) ∧ rsvField w = 0 ∧
      assembleOperands p (payField w) (codeOf i) = some i := by
  constructor
  · intro h
    unfold decode at h
    split at h
    case isTrue => cases h
    case isFalse hrsv =>
      split at h
      case h_1 => cases h
      case h_2 c hc =>
        split at h
        case h_1 => cases h
        case h_2 ha =>
          cases h
          obtain rfl := codeOf_of_assembleOperands ha
          exact ⟨eventOf_eq_some.1 hc, Decidable.not_not.1 hrsv, ha⟩
  · rintro ⟨hop, hrsv, ha⟩
    simp [decode, hrsv, eventOf_eq_some.2 hop, ha]

theorem decode_ne_ok_of_reserved {p : Params} {w : EventWord} (h : eventOf (opField w) = none) (i : Instr) :
    decode p w ≠ .ok i := by
  intro hi
  have hop := (decode_eq_ok.1 hi).1
  cases h.symm.trans (eventOf_eq_some.2 hop)

/-! ### The columns of R72 -/

/-- R72's `match` column. -/
def eventMatch : EventCode → EventWord
  | .rxb => 0x10000000
  | .txrdy => 0x20000000
  | .arm => 0x30000000
  | .tick => 0x40000000
  | .edge => 0x50000000
  | .debexp => 0x60000000
  | .conv => 0x70000000
  | .pwmpb => 0x80000000
  | .bcdpub => 0x90000000
  | .ctrlw => 0xA0000000

/-- R72's `mask` column. -/
def eventMask : EventCode → EventWord
  | .rxb => 0xFFFFFF00
  | .debexp => 0xFFFFFFFE
  | .conv => 0xFFFFF000
  | .bcdpub => 0xFFFF0000
  | .ctrlw => 0xFFFFFFE0
  | .txrdy | .arm | .tick | .edge | .pwmpb => 0xFFFFFFFF

/-- The bits of `PAY` that carry an operand, from bit 0 up (R73). -/
def operandWidth : EventCode → Nat
  | .rxb => 8
  | .debexp => 1
  | .conv => 12
  | .bcdpub => 16
  | .ctrlw => 5
  | .txrdy | .arm | .tick | .edge | .pwmpb => 0

/-- R72's `operand fields` column, with R73's extra test of CONV. -/
def OperandsRead (p : Params) (w : EventWord) : Instr → Prop
  | .rxb byte => byte = w.extractLsb' 0 8
  | .debexp level => level = w.extractLsb' 0 1
  | .conv raw => raw = w.extractLsb' 0 12 ∧ raw.toNat < 2 ^ p.adcRes.bits
  | .bcdpub n => n = w.extractLsb' 0 16
  | .ctrlw en => en = w.extractLsb' 0 5
  | .txrdy | .arm | .tick | .edge | .pwmpb => True

theorem fields_eventMatch (c : EventCode) :
    opField (eventMatch c) = eventBits c ∧ rsvField (eventMatch c) = 0 ∧ payField (eventMatch c) = 0 := by
  cases c <;> decide

theorem upperFields_eventMask (c : EventCode) :
    opField (eventMask c) = BitVec.allOnes 4 ∧ rsvField (eventMask c) = BitVec.allOnes 12 := by
  cases c <;> decide

theorem payField_eventMask (c : EventCode) : payField (eventMask c) = BitVec.allOnes 16 <<< operandWidth c := by
  cases c <;> decide

theorem operandWidth_le (c : EventCode) : operandWidth c ≤ 16 := by
  cases c <;> decide

/-- A mask covers all of `OP`, all of `RSV`, and of `PAY` what lies above the operand. -/
theorem and_eventMask_eq_eventMatch {w : EventWord} {c : EventCode} :
    w &&& eventMask c = eventMatch c ↔
      opField w = eventBits c ∧ rsvField w = 0 ∧
        (payField w).extractLsb' (operandWidth c) (16 - operandWidth c) = 0 := by
  obtain ⟨hop, hrsv, hpay⟩ := fields_eventMatch c
  obtain ⟨hopMask, hrsvMask⟩ := upperFields_eventMask c
  rw [and_eq_iff_fields, hop, hrsv, hpay, hopMask, hrsvMask, BitVec.and_allOnes, BitVec.and_allOnes, payField_eventMask,
    extractLsb'_eq_zero_iff_and (Nat.add_sub_cancel' (operandWidth_le c))]

/-- An event whose operand is the low `n` bits of `PAY`, the `m` bits above them being 0. -/
theorem whenLegal_low_eq_some {n m : Nat} (hn : n ≤ 16) {event : BitVec n → Instr}
    (hinj : Function.Injective event) {w : EventWord} {a : BitVec n} :
    whenLegal ((payField w).extractLsb' n m == 0) (event ((payField w).extractLsb' 0 n)) = some (event a) ↔
      (payField w).extractLsb' n m = 0 ∧ a = w.extractLsb' 0 n := by
  rw [whenLegal_eq_some, beq_iff_eq, payField_extractLsb' w hn, hinj.eq_iff, eq_comm (a := a)]

/-- R73's payload rule: what lies above the operand is 0; the operand is what lies below. -/
theorem assembleOperands_eq_some {p : Params} {w : EventWord} {i : Instr} :
    assembleOperands p (payField w) (codeOf i) = some i ↔
      (payField w).extractLsb' (operandWidth (codeOf i)) (16 - operandWidth (codeOf i)) = 0 ∧ OperandsRead p w i := by
  cases i with
  | rxb byte => exact whenLegal_low_eq_some (by decide) fun _ _ => Instr.rxb.inj
  | debexp level => exact whenLegal_low_eq_some (by decide) fun _ _ => Instr.debexp.inj
  | ctrlw en => exact whenLegal_low_eq_some (by decide) fun _ _ => Instr.ctrlw.inj
  | conv raw =>
    simp only [codeOf, assembleOperands, OperandsRead, operandWidth, whenLegal_eq_some, Bool.and_eq_true, beq_iff_eq,
      decide_eq_true_eq, payField_extractLsb' w (by decide : 12 ≤ 16), Instr.conv.injEq]
    constructor
    · rintro ⟨⟨hclear, hraw⟩, rfl⟩; exact ⟨hclear, rfl, hraw⟩
    · rintro ⟨hclear, rfl, hraw⟩; exact ⟨⟨hclear, hraw⟩, rfl⟩
  | bcdpub n => simp [codeOf, assembleOperands, OperandsRead, operandWidth, payField, eq_comm]
  | txrdy | arm | tick | edge | pwmpb =>
    simp [codeOf, assembleOperands, OperandsRead, operandWidth, whenLegal_eq_some, BitVec.extractLsb'_eq_self]

/-- R72's sentence, for every event at once: what decodes to `i` is what matches under the mask of `i`'s row. -/
theorem decode_eq_ok_iff_match {p : Params} {w : EventWord} {i : Instr} :
    decode p w = .ok i ↔ w &&& eventMask (codeOf i) = eventMatch (codeOf i) ∧ OperandsRead p w i := by
  rw [decode_eq_ok, assembleOperands_eq_some, and_eventMask_eq_eventMatch, and_assoc, and_assoc]

theorem decode_eq_ok_iff_match_of_operandsRead {p : Params} {w : EventWord} {i : Instr} (h : OperandsRead p w i) :
    decode p w = .ok i ↔ w &&& eventMask (codeOf i) = eventMatch (codeOf i) :=
  decode_eq_ok_iff_match.trans (and_iff_left h)

/-- The mask of R72's reserved rows fixes `OP` and nothing else. -/
theorem opField_of_and_opMask {w v : EventWord} (h : w &&& 0xF0000000 = v) : opField w = opField v := by
  have hop := (and_eq_iff_fields.1 h).1
  rwa [show opField 0xF0000000 = BitVec.allOnes 4 by decide, BitVec.and_allOnes] at hop

/-- Settles O8: `decode_eq_ok_iff_match` at each of the ten rows; a reserved row's `OP` names no event. -/
theorem eventsByMatchAndMask : Obligations.EventsByMatchAndMask := by
  intro p w
  refine ⟨fun _ => decode_eq_ok_iff_match,
    decode_eq_ok_iff_match_of_operandsRead trivial,
    decode_eq_ok_iff_match_of_operandsRead trivial,
    decode_eq_ok_iff_match_of_operandsRead trivial,
    decode_eq_ok_iff_match_of_operandsRead trivial,
    fun _ => decode_eq_ok_iff_match,
    fun _ => decode_eq_ok_iff_match,
    decode_eq_ok_iff_match_of_operandsRead trivial,
    fun _ => decode_eq_ok_iff_match,
    fun _ => decode_eq_ok_iff_match,
    fun reserved => decode_ne_ok_of_reserved ?_⟩
  obtain h | h | h | h | h | h := reserved
  all_goals rw [opField_of_and_opMask h]; rfl

end Sys2Proof

/-! ## The word of an event as a sum (30_encoding.md R70, R72) -/

namespace Sys2Proof

/-- `RSV` being 0, the code above it is the row's match, and the payload appended below adds to that. -/
theorem encode_eq_match_add_payload (i : Instr) :
    encode i = eventMatch (codeOf i) + (payloadOf i).setWidth 32 := by
  obtain ⟨hop, hrsv, hpay⟩ := fields_eventMatch (codeOf i)
  calc encode i = eventBits (codeOf i) ++ (0 : BitVec 12) ++ (0 : BitVec 16) + (0#16 ++ payloadOf i) :=
        BitVec.append_zero_add_zero_append.symm
    _ = eventMatch (codeOf i) + (0#16 ++ payloadOf i) := by
        rw [← hop, ← hrsv, ← hpay, fields_append]
    _ = eventMatch (codeOf i) + (payloadOf i).setWidth 32 := by
        rw [BitVec.setWidth_eq_append (by decide : 16 ≤ 32)]; rfl

end Sys2Proof

/-! ## The BCD Encoder (40_bcd.md) -/

namespace Sys2Proof.Machine

/-! ### Double dabble is decimal doubling (R101) -/

/-- The accumulators hold the two low decimal digits of `v`. -/
structure BcdAcc.Holds (a : BcdAcc) (v : Nat) : Prop where
  tens : a.tens.toNat = v % 100 / 10
  units : a.units.toNat = v % 10

/-- Correcting and shifting a decimal digit doubles it, with the bit shifted in added. -/
theorem shiftIn_addThree_toNat {d : BitVec 4} (hd : d.toNat ≤ 9) (b : Bool) :
    (shiftIn (addThree d) b).toNat = (2 * d.toNat + b.toNat) % 10 := by
  revert d b; decide

/-- The carry out of a corrected decimal digit says that its double exceeds 9. -/
theorem addThree_getLsbD_three {d : BitVec 4} (hd : d.toNat ≤ 9) :
    (addThree d).getLsbD 3 = decide (5 ≤ d.toNat) := by
  revert d; decide

/-- Steps 1 and 2 of R101's proof: one iteration is `V' = 2V + b`, of which two digits are kept. -/
theorem bcdIterate_holds {a : BcdAcc} {v : Nat} (h : a.Holds v) (b : Bool) :
    (bcdIterate a b).Holds (2 * v + b.toNat) := by
  obtain ⟨htens, hunits⟩ := h
  have hb := b.toNat_le
  constructor
  · rw [bcdIterate, shiftIn_addThree_toNat (by omega), addThree_getLsbD_three (by omega), htens, hunits]
    by_cases hcarry : 5 ≤ v % 10
    · simp only [hcarry, decide_true, Bool.toNat_true]; omega
    · simp only [hcarry, decide_false, Bool.toNat_false]; omega
  · rw [bcdIterate, shiftIn_addThree_toNat (by omega), hunits]; omega

/-- Dropping one bit fewer of `n` doubles what is left and adds that bit. -/
theorem toNat_div_two_pow_eq (n : BitVec 16) (k : Nat) :
    n.toNat / 2 ^ k = 2 * (n.toNat / 2 ^ (k + 1)) + (n.getLsbD k).toNat := by
  rw [BitVec.getLsbD, Nat.toNat_testBit, Nat.pow_succ, ← Nat.div_div_eq_div_mul, Nat.div_add_mod]

/-- Step 3 of R101's proof: what the bits above `k` have built, the `k` bits below complete to `n`. -/
theorem bcdLoop_holds {n : BitVec 16} {k : Nat} {a : BcdAcc} (h : a.Holds (n.toNat / 2 ^ k)) :
    (bcdLoop n k a).Holds n.toNat := by
  induction k generalizing a with
  | zero => simpa [bcdLoop_zero] using h
  | succ k ih =>
    rw [bcdLoop_succ]
    apply ih
    rw [toNat_div_two_pow_eq]
    exact bcdIterate_holds h _

/-- R101, from empty accumulators and no bit read. -/
theorem bcd16_holds (n : BitVec 16) : (bcd16 n).Holds n.toNat := by
  apply bcdLoop_holds
  rw [Nat.div_eq_of_lt n.isLt]
  exact ⟨rfl, rfl⟩

/-! ### The two settings of `BCD_OVERRANGE` (R102) -/

theorem bcdDigits_of_algorithm_or_le {o : BcdOverrange} {n : BitVec 16} (h : o = .algorithm ∨ n.toNat ≤ 99) (k : Nat) :
    bcdDigits o k n = (bcd16 n, k) := by
  obtain ⟨-, hdigits⟩ | ⟨⟨rfl, hn⟩, -⟩ := bcdDigits_cases o k n
  · exact hdigits
  · exact absurd h (by simpa using hn)

theorem bcdDigits_draw_of_lt {n : BitVec 16} (hn : 99 < n.toNat) (k : Nat) :
    bcdDigits .draw k n = (⟨Config.draw4 k, Config.draw4 (k + 1)⟩, k + 2) := if_pos hn

/-- Settles O33: below 100 and under Algorithm the digits are `bcd16`'s, which are decimal by `bcd16_holds`. -/
theorem bcdOverrangeSettings : Obligations.BcdOverrangeSettings := by
  intro n k
  have halgorithm := bcdDigits_of_algorithm_or_le (n := n) (.inl rfl) k
  refine ⟨?_, fun hn => ?_, fun hn => ?_⟩
  · rw [halgorithm]
    exact ⟨(bcd16_holds n).tens, (bcd16_holds n).units⟩
  · rw [bcdDigits_draw_of_lt hn]
  · rw [halgorithm, bcdDigits_of_algorithm_or_le (.inr hn)]

/-! ### BCDPUB (R103) -/

/-- Settles O31: BCDPUB writes what `bcdDigits` answers, in each of the two cases of `BCD_OVERRANGE`. -/
theorem bcdpubPublishesDigits : Obligations.BcdpubPublishesDigits := by
  intro s n
  refine ⟨encode_eq_match_add_payload (.bcdpub n), fun h => execBcdpub_next.2 ?_, fun hdraw hn => execBcdpub_next.2 ?_⟩
  · rw [bcdDigits_of_algorithm_or_le h]
  · rw [hdraw, bcdDigits_draw_of_lt hn]

end Sys2Proof.Machine

/-! ## The Display Multiplexer (41_display_mux.md) -/

namespace Sys2Proof.Machine

/-! ### The segment lookup (R110) -/

theorem segPattern_of_segEntry_eq_some {t : SegTable} {d : Byte} {p : Pattern} (h : segEntry t d = some p) (k : Nat) :
    segPattern t k d = (p, k) := by
  rw [segPattern, h]

theorem segEntry_eq_none_of_lt {d : Byte} (hd : 9 < d.toNat) (t : SegTable) : segEntry t d = none := by
  unfold segEntry
  split
  case h_11 => rfl
  all_goals omega

theorem segPattern_of_lt {d : Byte} (hd : 9 < d.toNat) (t : SegTable) (k : Nat) :
    segPattern t k d = (Config.draw7 k, k + 1) := by
  rw [segPattern, segEntry_eq_none_of_lt hd]

/-- Settles O23: each of 0 to 9 has its entry in the table (`segPattern_of_segEntry_eq_some`), a greater value has none
(`segPattern_of_lt`). -/
theorem segmentLookup : Obligations.SegmentLookup := by
  refine ⟨fun t k => ⟨?_, ?_, ?_, ?_, ?_, ?_, ?_, ?_, ?_, ?_, fun d hd => segPattern_of_lt hd t k⟩, rfl⟩
  all_goals exact segPattern_of_segEntry_eq_some rfl k

/-! ### TICK (R111) -/

theorem exec_tick_of_muxEn_eq_false {s : State} (h : s.muxEn = false) : exec .tick s = .next { s with outs := [] } :=
  whenEnabled_next.2 (.inr ⟨h, rfl⟩)

theorem exec_tick_of_muxEn {s : State} (h : s.muxEn = true) : exec .tick s = switchDigit s := if_pos h

theorem switchDigit_of_showDigit2 {s : State} {q : Pattern} {k : Nat} (hmux : s.muxState = .showDigit2)
    (hseg : segPattern s.params.segTable s.drawCount s.dig1 = (q, k)) :
    switchDigit s = .next { s with
      sel2 := false
      seg := q
      sel1 := true
      muxState := .showDigit1
      outs := [.desel .two, .segw q, .sela .one]
      drawCount := k } := by
  simp only [switchDigit, hmux, hseg, accept, State.emit]

theorem switchDigit_of_showDigit1 {s : State} {q : Pattern} {k : Nat} (hmux : s.muxState = .showDigit1)
    (hseg : segPattern s.params.segTable s.drawCount s.dig2 = (q, k)) :
    switchDigit s = .next { s with
      sel1 := false
      seg := q
      sel2 := true
      muxState := .showDigit2
      outs := [.desel .one, .segw q, .sela .two]
      drawCount := k } := by
  simp only [switchDigit, hmux, hseg, accept, State.emit]

/-- Settles O24: gated, TICK is ignored; ungated, it switches from the digit that `MUX_STATE` names to the other. -/
theorem tickSwitchesDigit : Obligations.TickSwitchesDigit := by
  refine ⟨rfl, fun s => ⟨exec_tick_of_muxEn_eq_false, fun hen => ⟨?_, ?_⟩⟩⟩
  · intro hmux q k hseg
    exact (exec_tick_of_muxEn hen).trans (switchDigit_of_showDigit2 hmux hseg)
  · intro hmux q k hseg
    exact (exec_tick_of_muxEn hen).trans (switchDigit_of_showDigit1 hmux hseg)

end Sys2Proof.Machine

/-! ## The Serial Packet Framer, receive side (42_framer_rx.md) -/

namespace Sys2Proof.Machine

/-! ### The receive transition table (R121) -/

theorem exec_rxb_of_rxEn_eq_false {s : State} (h : s.rxEn = false) (b : Byte) :
    exec (.rxb b) s = .next { s with outs := [] } :=
  whenEnabled_next.2 (.inr ⟨h, rfl⟩)

theorem exec_rxb_of_rxEn {s : State} (h : s.rxEn = true) (b : Byte) : exec (.rxb b) s = receive b s := if_pos h

section
variable {s : State} {b : Byte}

theorem receive_symStart_of_idle (hrx : s.rxState = .idle) (hb : b = symStart) :
    receive b s = .next { s with rxState := .gotStart, outs := [] } := by
  simp only [receive, hrx, if_pos hb, accept, State.emit]

theorem receive_ne_symStart_of_idle (hrx : s.rxState = .idle) (hb : b ≠ symStart) :
    receive b s = .next { s with outs := [] } := by
  simp only [receive, hrx, if_neg hb, ignore, accept, State.emit]

theorem receive_of_gotStart (hrx : s.rxState = .gotStart) :
    receive b s = .next { s with win0 := b, rxState := .gotDigit1, outs := [] } := by
  simp only [receive, hrx, accept, State.emit]

theorem receive_of_gotDigit1 (hrx : s.rxState = .gotDigit1) :
    receive b s = .next { s with win1 := b, rxState := .gotDigit2, outs := [] } := by
  simp only [receive, hrx, accept, State.emit]

/-- Acceptance: both digits and the flag in the one step. -/
theorem receive_symEnd_of_gotDigit2 (hrx : s.rxState = .gotDigit2) (hb : b = symEnd) :
    receive b s = .next { s with
      dig1 := digitOf s.win0
      dig2 := digitOf s.win1
      pktFlag := true
      rxState := .idle
      outs := [] } := by
  simp only [receive, hrx, if_pos hb, accept, State.emit, State.publish, State.raisePacketFlag]

theorem receive_ne_symEnd_of_gotDigit2 (hrx : s.rxState = .gotDigit2) (hb : b ≠ symEnd) :
    receive b s = .next { s with rxState := .idle, outs := [] } := by
  simp only [receive, hrx, if_neg hb, accept, State.emit]

end

theorem encode_rxb (b : Byte) : encode (.rxb b) = 0x10000000 + b.setWidth 32 := by
  have hpay : (payloadOf (.rxb b)).setWidth 32 = b.setWidth 32 := BitVec.setWidth_setWidth (by decide)
  rw [encode_eq_match_add_payload, hpay]
  rfl

/-- Settles O19: gated, RXB is ignored; ungated, it is `receive`, whose equations are the rows of the table. -/
theorem rxbTransitions : Obligations.RxbTransitions := by
  refine fun s b => ⟨encode_rxb b, fun h => exec_rxb_of_rxEn_eq_false h b, fun hen => ?_⟩
  rw [exec_rxb_of_rxEn hen]
  exact ⟨receive_symStart_of_idle, receive_ne_symStart_of_idle, receive_of_gotStart, receive_of_gotDigit1,
    receive_symEnd_of_gotDigit2, receive_ne_symEnd_of_gotDigit2⟩

/-! ### Digit decoding (R122) -/

theorem digitOf_toNat_eq_emod (b : Byte) : ((digitOf b).toNat : Int) = ((b.toNat : Int) - 0x30) % 256 := by
  have hzero : symZero.toNat = 0x30 := rfl
  rw [digitOf, BitVec.toNat_sub, hzero]
  omega

/-- No borrow: from `SYM_ZERO` up, the decoding is plain subtraction. -/
theorem digitOf_toNat_of_le {b : Byte} (h : 0x30 ≤ b.toNat) : (digitOf b).toNat = b.toNat - 0x30 :=
  BitVec.toNat_sub_of_le h

/-- Settles O20: `digitOf_toNat_eq_emod` for every byte; of the ASCII digits none borrows (`digitOf_toNat_of_le`). -/
theorem digitDecodingWraps : Obligations.DigitDecodingWraps := by
  refine ⟨digitOf_toNat_eq_emod, fun b hlo hhi => ?_, rfl, rfl⟩
  have hdigit := digitOf_toNat_of_le hlo
  exact ⟨hdigit, by omega⟩

end Sys2Proof.Machine

/-! ## The Serial Packet Framer, transmit side (43_framer_tx.md) -/

namespace Sys2Proof.Machine

/-! ### ARM (R130) -/

theorem canStartEcho_eq_true_iff {s : State} : s.canStartEcho = true ↔ s.pktFlag = true ∧ s.txState = .idle := by
  rw [State.canStartEcho, Bool.and_eq_true, beq_iff_eq]

theorem canStartEcho_eq_false_iff {s : State} : s.canStartEcho = false ↔ s.pktFlag = false ∨ s.txState ≠ .idle := by
  rw [State.canStartEcho, Bool.and_eq_false_iff, beq_eq_false_iff_ne]

theorem exec_arm_of_canStartEcho {s : State} (h : s.canStartEcho = true) :
    exec .arm s = .next { s with pktFlag := false, txState := .sendDigit1, outs := [.txd symStart] } := if_pos h

theorem exec_arm_of_canStartEcho_eq_false {s : State} (h : s.canStartEcho = false) :
    exec .arm s = .next { s with outs := [] } := if_neg (Bool.eq_false_iff.1 h)

/-- Settles O21: ARM is decided by `canStartEcho` alone, which reads the flag and `TX_STATE` and not `CTRL`. -/
theorem armStartsEcho : Obligations.ArmStartsEcho := by
  refine ⟨rfl, fun s => ⟨fun hflag hidle => ?_, fun hno => ?_⟩⟩
  · exact exec_arm_of_canStartEcho (canStartEcho_eq_true_iff.2 ⟨hflag, hidle⟩)
  · exact exec_arm_of_canStartEcho_eq_false (canStartEcho_eq_false_iff.2 hno)

/-! ### TXRDY (R131) -/

theorem exec_txrdy_of_txEn_eq_false {s : State} (h : s.txEn = false) : exec .txrdy s = .next { s with outs := [] } :=
  whenEnabled_next.2 (.inr ⟨h, rfl⟩)

theorem exec_txrdy_of_txEn {s : State} (h : s.txEn = true) : exec .txrdy s = sendNext s := if_pos h

section
variable {s : State}

theorem sendNext_of_idle (htx : s.txState = .idle) : sendNext s = .next { s with outs := [] } := by
  simp only [sendNext, htx, ignore, accept, State.emit]

theorem sendNext_of_sendDigit1 (htx : s.txState = .sendDigit1) :
    sendNext s = .next { s with txState := .sendDigit2, outs := [.txd s.win0] } := by
  simp only [sendNext, htx, accept, State.emit]

theorem sendNext_of_sendDigit2 (htx : s.txState = .sendDigit2) :
    sendNext s = .next { s with txState := .sendEnd, outs := [.txd s.win1] } := by
  simp only [sendNext, htx, accept, State.emit]

theorem sendNext_of_sendEnd (htx : s.txState = .sendEnd) :
    sendNext s = .next { s with txState := .idle, outs := [.txd symEnd] } := by
  simp only [sendNext, htx, accept, State.emit]

end

/-- Settles O22: gated, TXRDY is ignored; ungated, it is `sendNext`, whose four equations are the rows of R131. -/
theorem txrdySendsNextByte : Obligations.TxrdySendsNextByte := by
  refine ⟨rfl, fun s => ⟨exec_txrdy_of_txEn_eq_false, fun hen => ?_⟩⟩
  rw [exec_txrdy_of_txEn hen]
  exact ⟨sendNext_of_idle, sendNext_of_sendDigit1, sendNext_of_sendDigit2, sendNext_of_sendEnd⟩

end Sys2Proof.Machine

/-! ## The Button Debouncer (44_debouncer.md) -/

namespace Sys2Proof.Machine

/-! ### EDGE (R140) -/

theorem exec_edge_of_debEn_eq_false {s : State} (h : s.debEn = false) : exec .edge s = .next { s with outs := [] } :=
  whenEnabled_next.2 (.inr ⟨h, rfl⟩)

theorem exec_edge_of_debEn {s : State} (h : s.debEn = true) : exec .edge s = onEdge s := if_pos h

theorem onEdge_of_armed {s : State} (hdeb : s.debState = .armed) :
    onEdge s = .next { s with debState := .settling, outs := [.ostart] } := by
  simp only [onEdge, hdeb, accept, State.emit]

theorem onEdge_of_settling {s : State} (hdeb : s.debState = .settling) : onEdge s = .next { s with outs := [] } := by
  simp only [onEdge, hdeb, ignore, accept, State.emit]

/-- Settles O25: gated, EDGE is ignored; ungated, it is `onEdge`, which acts in Armed only. -/
theorem edgeStartsTimer : Obligations.EdgeStartsTimer := by
  refine ⟨rfl, fun s => ⟨exec_edge_of_debEn_eq_false, fun hen => ?_⟩⟩
  rw [exec_edge_of_debEn hen]
  exact ⟨onEdge_of_armed, onEdge_of_settling⟩

/-! ### DEBEXP (R141, R142) -/

theorem encode_debexp (level : BitVec 1) : encode (.debexp level) = 0x60000000 + level.setWidth 32 := by
  have hpay : (payloadOf (.debexp level)).setWidth 32 = level.setWidth 32 := BitVec.setWidth_setWidth (by decide)
  rw [encode_eq_match_add_payload, hpay]
  rfl

/-- R142's other level. -/
theorem pressed_eq_false_iff (level : BitVec 1) : pressed level = false ↔ level = 1 := by
  revert level; decide

section
variable {s : State} {level : BitVec 1}

theorem exec_debexp_of_debEn_eq_false (h : s.debEn = false) : exec (.debexp level) s = .next { s with outs := [] } :=
  whenEnabled_next.2 (.inr ⟨h, rfl⟩)

theorem exec_debexp_of_debEn (h : s.debEn = true) : exec (.debexp level) s = onExpiry level s := if_pos h

theorem onExpiry_of_armed (hdeb : s.debState = .armed) : onExpiry level s = .next { s with outs := [] } := by
  simp only [onExpiry, hdeb, ignore, accept, State.emit]

theorem onExpiry_zero_of_triggerSample (hdeb : s.debState = .settling) (hlevel : level = 0)
    (hact : s.params.debounceAction = .triggerSample) :
    onExpiry level s = .next { s with debState := .armed, outs := [.adcgo] } := by
  simp only [onExpiry, hdeb, if_pos ((pressed_iff level).2 hlevel), hact, accept, State.emit]

theorem onExpiry_zero_of_toggleIndicator (hdeb : s.debState = .settling) (hlevel : level = 0)
    (hact : s.params.debounceAction = .toggleIndicator) :
    onExpiry level s = .next { s with indicator := !s.indicator, debState := .armed, outs := [] } := by
  simp only [onExpiry, hdeb, if_pos ((pressed_iff level).2 hlevel), hact, accept, State.emit]

/-- A released level re-arms whatever the configured action. -/
theorem onExpiry_one_of_settling (hdeb : s.debState = .settling) (hlevel : level = 1) :
    onExpiry level s = .next { s with debState := .armed, outs := [] } := by
  have hreleased : ¬pressed level = true := Bool.eq_false_iff.1 ((pressed_eq_false_iff level).2 hlevel)
  simp only [onExpiry, hdeb, if_neg hreleased, accept, State.emit]

end

/-- Settles O26: gated, DEBEXP is ignored; ungated, it is `onExpiry`, whose equations are Armed, the two actions on a
pressed level, and the released level. -/
theorem expiryActsAndRearms : Obligations.ExpiryActsAndRearms := by
  refine fun s level => ⟨encode_debexp level, exec_debexp_of_debEn_eq_false, fun hen => ?_⟩
  rw [exec_debexp_of_debEn hen]
  exact ⟨onExpiry_of_armed, onExpiry_zero_of_triggerSample, onExpiry_zero_of_toggleIndicator,
    onExpiry_one_of_settling⟩

end Sys2Proof.Machine

/-! ## The Sampler/PWM Coupler (45_sampler_pwm.md) -/

namespace Sys2Proof

/-- R71's last test: the code is an event's, and the payload breaks that event's rule. -/
theorem decode_eq_payloadOutOfRange {p : Params} {w : EventWord} {c : EventCode} (hop : opField w = eventBits c)
    (hrsv : rsvField w = 0) (hpay : assembleOperands p (payField w) c = none) :
    decode p w = .error .payloadOutOfRange := by
  simp [decode, hrsv, eventOf_eq_some.2 hop, hpay]

theorem encode_conv (raw : BitVec 12) : encode (.conv raw) = 0x70000000 + raw.setWidth 32 := by
  have hpay : (payloadOf (.conv raw)).setWidth 32 = raw.setWidth 32 := BitVec.setWidth_setWidth (by decide)
  rw [encode_eq_match_add_payload, hpay]
  rfl

/-- R73's range rule: from `2 ^ ADC_RES` up, the payload that carries a sample is no event's. -/
theorem assembleOperands_conv_eq_none {p : Params} {raw : BitVec 12} (h : p.rawFullScale ≤ raw.toNat) :
    assembleOperands p (payloadOf (.conv raw)) .conv = none := by
  have hlow : (payloadOf (.conv raw)).extractLsb' 0 12 = raw :=
    (BitVec.extractLsb'_setWidth_of_le (by decide)).trans BitVec.extractLsb'_eq_self
  rw [assembleOperands, hlow, whenLegal, if_neg (by simp [h])]

theorem decode_encode_conv_of_le {p : Params} {raw : BitVec 12} (h : p.rawFullScale ≤ raw.toNat) :
    decode p (encode (.conv raw)) = .error .payloadOutOfRange := by
  obtain ⟨hop, hrsv, hpay⟩ := Laws.EventWordShape.conv raw
  exact decode_eq_payloadOutOfRange hop hrsv (by rw [hpay, codeOf, assembleOperands_conv_eq_none h])

theorem Params.pwmPeriod_le (p : Params) : p.pwmPeriod ≤ 2 ^ 16 := p.pwmTop.isLt

end Sys2Proof

namespace Sys2Proof.Machine

/-! ### The duty mapping (R150) -/

theorem duty_lt_pwmPeriod {p : Params} {a : Nat} (h : a < p.rawFullScale) : duty p a < p.pwmPeriod :=
  Nat.div_lt_of_lt_mul (Nat.mul_lt_mul_of_pos_right h p.pwmTop.val.succ_pos)

/-- A legal sample's duty loses nothing in the 16 bits of `CMP_SHADOW`. -/
theorem toNat_ofNat_duty {p : Params} {a : Nat} (h : a < p.rawFullScale) :
    (BitVec.ofNat 16 (duty p a)).toNat = duty p a :=
  Nat.mod_eq_of_lt (Nat.lt_of_lt_of_le (duty_lt_pwmPeriod h) p.pwmPeriod_le)

/-! ### CONV (R151) -/

section
variable {s : State} {raw : BitVec 12}

theorem exec_conv_of_lt (h : raw.toNat < s.params.rawFullScale) :
    exec (.conv raw) s = whenEnabled s.adcEn s (convert raw) := if_pos h

theorem exec_conv_of_adcEn_eq_false (h : raw.toNat < s.params.rawFullScale) (hen : s.adcEn = false) :
    exec (.conv raw) s = .next { s with outs := [] } :=
  (exec_conv_of_lt h).trans (whenEnabled_next.2 (.inr ⟨hen, rfl⟩))

theorem exec_conv_of_adcEn (h : raw.toNat < s.params.rawFullScale) (hen : s.adcEn = true) :
    exec (.conv raw) s =
      .next { s with sample := raw, cmpShadow := BitVec.ofNat 16 (duty s.params raw.toNat), outs := [] } :=
  (exec_conv_of_lt h).trans (whenEnabled_next.2 (.inl ⟨hen, rfl⟩))

end

/-- Settles O27: a legal sample's duty stands whole in the shadow register (`toNat_ofNat_duty`) and below the period
(`duty_lt_pwmPeriod`); the word of any other sample decodes to no event (`decode_encode_conv_of_le`). -/
theorem convWritesSampleAndShadow : Obligations.ConvWritesSampleAndShadow := by
  refine fun s raw => ⟨fun hraw => ⟨encode_conv raw, exec_conv_of_adcEn_eq_false hraw, fun hen => ?_⟩, fun hraw => ?_⟩
  · have hduty := toNat_ofNat_duty hraw
    have hbound := Nat.lt_of_le_of_lt (Nat.le_of_eq hduty) (duty_lt_pwmPeriod hraw)
    exact ⟨BitVec.ofNat 16 (duty s.params raw.toNat), hduty, hbound, exec_conv_of_adcEn hraw hen⟩
  · rw [← encode_conv]
    exact decode_encode_conv_of_le hraw

/-! ### PWMPB (R152) -/

/-- Settles O29: the word by evaluation, the meaning by `execPwmpb_next`; no gate stands before it. -/
theorem boundaryLoadsCompare : Obligations.BoundaryLoadsCompare :=
  ⟨rfl, fun _ => execPwmpb_next.2 rfl⟩

end Sys2Proof.Machine

/-! ## Interrupt-enable control (46_control.md) -/

namespace Sys2Proof.Machine

/-! ### CTRLW (R161) -/

theorem encode_ctrlw (en : BitVec 5) : encode (.ctrlw en) = 0xA0000000 + en.setWidth 32 :=
  (encode_eq_match_add_payload (.ctrlw en)).trans
    (congrArg (0xA0000000 + ·) (BitVec.setWidth_setWidth (by decide)))

theorem exec_ctrlw (en : BitVec 5) (s : State) : exec (.ctrlw en) s = .next { s with ctrl := en, outs := [] } :=
  execCtrlw_next.2 rfl

/-- Settles O34: the word by `encode_ctrlw`, the meaning by `exec_ctrlw`; the old `CTRL` enters neither. -/
theorem ctrlwWritesWholeRegister : Obligations.CtrlwWritesWholeRegister :=
  fun s en => ⟨encode_ctrlw en, exec_ctrlw en s⟩

/-! ### The events that are never gated (R160) -/

/-- ARM is decided by `canStartEcho`, which does not read `CTRL`, and neither of its outcomes writes `CTRL`. -/
theorem exec_arm_with_ctrl {s t : State} (c : BitVec 5) (h : exec .arm s = .next t) :
    exec .arm { s with ctrl := c } = .next { t with ctrl := c } := by
  obtain ⟨hstart, rfl⟩ | ⟨hno, rfl⟩ := execArm_cases h
  · exact exec_arm_of_canStartEcho (s := { s with ctrl := c }) hstart
  · exact exec_arm_of_canStartEcho_eq_false (s := { s with ctrl := c }) hno

theorem exec_bcdpub_with_ctrl {s t : State} {n : BitVec 16} (c : BitVec 5) (h : exec (.bcdpub n) s = .next t) :
    exec (.bcdpub n) { s with ctrl := c } = .next { t with ctrl := c } := by
  obtain rfl := execBcdpub_next.1 h
  exact execBcdpub_next.2 rfl

theorem exec_pwmpb_with_ctrl {s t : State} (c : BitVec 5) (h : exec .pwmpb s = .next t) :
    exec .pwmpb { s with ctrl := c } = .next { t with ctrl := c } := by
  obtain rfl := execPwmpb_next.1 h
  exact execPwmpb_next.2 rfl

/-- The old `CTRL` is overwritten, so it does not show in the result. -/
theorem exec_ctrlw_with_ctrl (e c : BitVec 5) (s : State) :
    exec (.ctrlw e) { s with ctrl := c } = exec (.ctrlw e) s :=
  (exec_ctrlw e _).trans (exec_ctrlw e s).symm

/-- Settles O18: each gated unit's event is ignored at bit 0 (its `exec_…_eq_false` lemma), and the four ungated events
commute with a change of `CTRL` or overwrite it (the `exec_…_with_ctrl` lemmas). -/
theorem gatingMap : Obligations.GatingMap :=
  fun s => ⟨exec_rxb_of_rxEn_eq_false, exec_txrdy_of_txEn_eq_false, exec_tick_of_muxEn_eq_false,
    exec_edge_of_debEn_eq_false, fun hdeb _ => exec_debexp_of_debEn_eq_false hdeb,
    fun hadc _ hlegal => exec_conv_of_adcEn_eq_false hlegal hadc,
    fun c _ => exec_arm_with_ctrl c, fun _ c _ => exec_bcdpub_with_ctrl c, fun c _ => exec_pwmpb_with_ctrl c,
    fun e c => exec_ctrlw_with_ctrl e c s⟩

end Sys2Proof.Machine

/-! ## Reset (70_reset_and_hazards.md) -/

namespace Sys2Proof.Machine

/-! ### The reset values and the pins they drive (R200, R201) -/

/-- R37 at latches that select no digit and light no segment. -/
theorem displayPins_of_latches_off {s : State} (hseg : s.seg = 0) (hsel1 : s.sel1 = false) (hsel2 : s.sel2 = false) :
    s.displayPins = ⟨segLevels s.params 0, selLevel s.params false, selLevel s.params false⟩ := by
  rw [State.displayPins, hseg, hsel1, hsel2]

/-- Settles O1: the 17 elements and the output list stand in `State.resetWith` as R200 lists them, one field each; the
display pins follow from the latches (`displayPins_of_latches_off`), the other two outputs are elements themselves. -/
theorem resetElementValues : Obligations.ResetElementValues := by
  intro p
  have hpins : (State.resetWith p).displayPins = ⟨segLevels p 0, selLevel p false, selLevel p false⟩ :=
    displayPins_of_latches_off rfl rfl rfl
  exact ⟨rfl, rfl, rfl, rfl, rfl, rfl, rfl, rfl, rfl, rfl, rfl, rfl, rfl, rfl, rfl, rfl, rfl, rfl, hpins, rfl⟩

end Sys2Proof.Machine

/-! ## The event word, encoder against decoder (30_encoding.md sections 1 to 3) -/

namespace Sys2Proof

/-! ### The decoder reads exactly the encoder's words -/

/-- `PAY` is an operand of `n` bits extended to 16 exactly when the operand is its low `n` bits and the rest is 0. -/
theorem setWidth_eq_payField_iff {n : Nat} (hn : n ≤ 16) {a : BitVec n} {w : EventWord} :
    a.setWidth 16 = payField w ↔ (payField w).extractLsb' n (16 - n) = 0 ∧ a = w.extractLsb' 0 n := by
  rw [← payField_extractLsb' w hn]
  generalize payField w = pay
  constructor
  · rintro rfl
    refine ⟨by ext j hj; simp, ?_⟩
    rw [BitVec.extractLsb'_setWidth_of_le (by omega), BitVec.extractLsb'_eq_self]
  · rintro ⟨hclear, rfl⟩
    have hdiv : pay.toNat / 2 ^ n < 2 ^ (16 - n) := by
      rw [Nat.div_lt_iff_lt_mul (Nat.two_pow_pos n), ← Nat.pow_add, Nat.sub_add_cancel hn]
      exact pay.isLt
    have hzero : pay.toNat / 2 ^ n = 0 := by
      have h := congrArg BitVec.toNat hclear
      rwa [BitVec.extractLsb'_toNat, Nat.shiftRight_eq_div_pow, Nat.mod_eq_of_lt hdiv] at h
    have hlow : pay.toNat < 2 ^ n := (Nat.div_eq_zero_iff_lt (Nat.two_pow_pos n)).1 hzero
    apply BitVec.eq_of_toNat_eq
    rw [BitVec.toNat_setWidth, BitVec.extractLsb'_toNat, Nat.shiftRight_zero, Nat.mod_eq_of_lt hlow,
      Nat.mod_eq_of_lt pay.isLt]

/-- R73's payload rule, read from the encoder's side. -/
theorem payloadOf_eq_payField_iff {p : Params} {w : EventWord} {i : Instr} :
    payloadOf i = payField w ∧ wellFormed p i = true ↔
      (payField w).extractLsb' (operandWidth (codeOf i)) (16 - operandWidth (codeOf i)) = 0 ∧ OperandsRead p w i := by
  cases i with
  | rxb | debexp | ctrlw => exact (and_iff_left rfl).trans (setWidth_eq_payField_iff (by decide))
  | conv raw =>
    rw [wellFormed, decide_eq_true_iff]
    exact (and_congr_left' (setWidth_eq_payField_iff (by decide))).trans and_assoc
  | bcdpub n => simp [codeOf, payloadOf, wellFormed, OperandsRead, operandWidth, payField]
  | txrdy | arm | tick | edge | pwmpb =>
    simp [codeOf, payloadOf, wellFormed, OperandsRead, operandWidth, BitVec.extractLsb'_eq_self, eq_comm]

theorem fields_encode (i : Instr) :
    opField (encode i) = eventBits (codeOf i) ∧ rsvField (encode i) = 0 ∧ payField (encode i) = payloadOf i :=
  Laws.EventWordShape.fields_of_parts _ _ _

/-- What decodes to an event is its word, and the event has a word. -/
theorem decode_eq_ok_iff_encode {p : Params} {w : EventWord} {i : Instr} :
    decode p w = .ok i ↔ encode i = w ∧ wellFormed p i = true := by
  obtain ⟨hop, hrsv, hpay⟩ := fields_encode i
  rw [decode_eq_ok, assembleOperands_eq_some, ← payloadOf_eq_payField_iff, eq_iff_fields, hop, hrsv, hpay, and_assoc,
    and_assoc, eq_comm (a := opField w), eq_comm (a := rsvField w)]

/-- Settles O6: `decode_eq_ok_iff_encode` at the event's own word. -/
theorem decodeOfEncode : Obligations.DecodeOfEncode :=
  fun _ _ hwf => decode_eq_ok_iff_encode.2 ⟨rfl, hwf⟩

/-- Settles O7: the other direction of `decode_eq_ok_iff_encode`. -/
theorem encodeOfDecode : Obligations.EncodeOfDecode :=
  fun _ _ _ hdec => decode_eq_ok_iff_encode.1 hdec

/-! ### The order of the decoder's tests (R71, R74) -/

/-- Any low part of `PAY` from bit `k` up is that part of the word. -/
theorem payField_extractLsb'_of_le (w : EventWord) {k n : Nat} (h : k + n ≤ 16) :
    (payField w).extractLsb' k n = w.extractLsb' k n :=
  BitVec.extractLsb'_extractLsb'_of_le h

/-- The form the assembly of an operand has, read off the word itself. -/
theorem whenLegal_payField (w : EventWord) {n m : Nat} (h : n + m ≤ 16) (event : BitVec n → Instr) :
    whenLegal ((payField w).extractLsb' n m == 0) (event ((payField w).extractLsb' 0 n)) =
      whenLegal (w.extractLsb' n m == 0) (event (w.extractLsb' 0 n)) := by
  rw [payField_extractLsb'_of_le w h, payField_extractLsb' w (by omega)]

theorem decode_eq_reservedBitsSet {p : Params} {w : EventWord} (hrsv : rsvField w ≠ 0) :
    decode p w = .error .reservedBitsSet := if_pos hrsv

theorem decode_eq_reservedOpcode {p : Params} {w : EventWord} (hrsv : rsvField w = 0) (hop : eventOf (opField w) = none) :
    decode p w = .error .reservedOpcode := by
  simp [decode, hrsv, hop]

theorem eventOf_eq_none_iff {op : BitVec 4} : eventOf op = none ↔ op.toNat = 0 ∨ 10 < op.toNat := by
  revert op; decide

/-- R71's last test: a code whose operands are assembled under a condition decodes by that condition. -/
theorem decode_eq_ite {p : Params} {w : EventWord} {c : EventCode} {i : Instr} {legal : Bool} {P : Prop} [Decidable P]
    (hrsv : rsvField w = 0) (hasm : assembleOperands p (payField w) c = whenLegal legal i) (hlegal : legal = true ↔ P)
    (hop : (opField w).toNat = (eventBits c).toNat) :
    decode p w = if P then .ok i else .error .payloadOutOfRange := by
  have hcode : eventOf (opField w) = some c := eventOf_eq_some.2 (BitVec.eq_of_toNat_eq hop)
  by_cases hP : P
  · simp [decode, hrsv, hcode, hasm, whenLegal, hlegal.2 hP, hP]
  · simp [decode, hrsv, hcode, hasm, whenLegal, mt hlegal.1 hP, hP]

end Sys2Proof

namespace Sys2Proof.Machine

/-! ### The step by its word (00_scope.md R12, 60_exceptions.md R172 and R185) -/

theorem step_of_decode_error {s : State} {w : EventWord} {rest : List EventWord} {r : Invalid}
    (hinput : s.input = w :: rest) (hdec : decode s.params w = .error r) :
    step s = .next { s with input := rest, outs := [], mark := s.mark.record r } := by
  simp only [step, takeEvent_cons hinput, State.awaiting_params, hdec]
  rfl

theorem step_of_decode_ok {s : State} {w : EventWord} {rest : List EventWord} {i : Instr}
    (hinput : s.input = w :: rest) (hdec : decode s.params w = .ok i) :
    step s = exec i { s with input := rest } := by
  simp only [step, takeEvent_cons hinput, State.awaiting_params, hdec]
  rfl

theorem step_of_input_nil {s : State} (hinput : s.input = []) : step s = .next { s with outs := [] } := by
  simp only [step, takeEvent_nil hinput]
  rfl

/-! ### The tests in order, and the step that records the first failure -/

/-- Settles O9: the three tests in R71's order (`decode_eq_reservedBitsSet`, `decode_eq_reservedOpcode`, `decode_eq_ite` at
each code), and the step that meets a failing word (`step_of_decode_error`). -/
theorem decodeTestsInOrder : Obligations.DecodeTestsInOrder := by
  refine fun p w => ⟨decode_eq_reservedBitsSet, fun hrsv => ⟨?_, ?_, ?_, ?_, ?_, ?_, ?_, ?_, ?_, ?_, ?_⟩, ?_⟩
  · exact fun hop => decode_eq_reservedOpcode hrsv (eventOf_eq_none_iff.2 hop)
  · exact decode_eq_ite (c := .rxb) hrsv (whenLegal_payField w (by decide) .rxb) beq_iff_eq
  · exact decode_eq_ite (c := .txrdy) hrsv rfl beq_iff_eq
  · exact decode_eq_ite (c := .arm) hrsv rfl beq_iff_eq
  · exact decode_eq_ite (c := .tick) hrsv rfl beq_iff_eq
  · exact decode_eq_ite (c := .edge) hrsv rfl beq_iff_eq
  · exact decode_eq_ite (c := .debexp) hrsv (whenLegal_payField w (by decide) .debexp) beq_iff_eq
  · rw [← payField_extractLsb'_of_le w (k := 12) (n := 4) (by decide), ← payField_extractLsb' w (n := 12) (by decide)]
    exact decode_eq_ite (c := .conv) hrsv rfl (by rw [Bool.and_eq_true, beq_iff_eq, decide_eq_true_iff]; rfl)
  · exact decode_eq_ite (c := .pwmpb) hrsv rfl beq_iff_eq
  · exact fun hop => decode_eq_ok.2 ⟨BitVec.eq_of_toNat_eq hop, hrsv, rfl⟩
  · exact decode_eq_ite (c := .ctrlw) hrsv (whenLegal_payField w (by decide) .ctrlw) beq_iff_eq
  · rintro s rest r rfl hinput hdec
    exact step_of_decode_error hinput hdec

end Sys2Proof.Machine

/-! ## Every event as one relation (files 40 to 46, row by row) -/

namespace Sys2Proof.Machine

/-- The event is accepted and does nothing: gated (46_control.md R160), or outside the states in which it acts. -/
def Ignored (s : State) : Instr → Prop
  | .rxb b => s.rxEn = false ∨ s.rxState = .idle ∧ b ≠ symStart
  | .txrdy => s.txEn = false ∨ s.txState = .idle
  | .arm => s.canStartEcho = false
  | .tick => s.muxEn = false
  | .edge => s.debEn = false ∨ s.debState = .settling
  | .debexp _ => s.debEn = false ∨ s.debState = .armed
  | .conv raw => raw.toNat < s.params.rawFullScale ∧ s.adcEn = false
  | .pwmpb | .bcdpub _ | .ctrlw _ => False

/-- What `exec` answers, one constructor per row of the event rules; `exec_eq_next_iff` ties it to `exec`. -/
inductive Transition (s : State) : Instr → State → Prop where
  | ignored {i : Instr} (h : Ignored s i) : Transition s i { s with outs := [] }
  | rxStart (hen : s.rxEn = true) (hrx : s.rxState = .idle) :
      Transition s (.rxb symStart) { s with rxState := .gotStart, outs := [] }
  | rxDigit1 {b : Byte} (hen : s.rxEn = true) (hrx : s.rxState = .gotStart) :
      Transition s (.rxb b) { s with win0 := b, rxState := .gotDigit1, outs := [] }
  | rxDigit2 {b : Byte} (hen : s.rxEn = true) (hrx : s.rxState = .gotDigit1) :
      Transition s (.rxb b) { s with win1 := b, rxState := .gotDigit2, outs := [] }
  | rxAccept (hen : s.rxEn = true) (hrx : s.rxState = .gotDigit2) :
      Transition s (.rxb symEnd) { s with
        dig1 := digitOf s.win0, dig2 := digitOf s.win1, pktFlag := true, rxState := .idle, outs := [] }
  | rxReject {b : Byte} (hen : s.rxEn = true) (hrx : s.rxState = .gotDigit2) (hb : b ≠ symEnd) :
      Transition s (.rxb b) { s with rxState := .idle, outs := [] }
  | armStart (hstart : s.canStartEcho = true) :
      Transition s .arm { s with pktFlag := false, txState := .sendDigit1, outs := [.txd symStart] }
  | txDigit1 (hen : s.txEn = true) (htx : s.txState = .sendDigit1) :
      Transition s .txrdy { s with txState := .sendDigit2, outs := [.txd s.win0] }
  | txDigit2 (hen : s.txEn = true) (htx : s.txState = .sendDigit2) :
      Transition s .txrdy { s with txState := .sendEnd, outs := [.txd s.win1] }
  | txEnd (hen : s.txEn = true) (htx : s.txState = .sendEnd) :
      Transition s .txrdy { s with txState := .idle, outs := [.txd symEnd] }
  | tickOne {q : Pattern} {k : Nat} (hen : s.muxEn = true) (hmux : s.muxState = .showDigit2)
      (hseg : segPattern s.params.segTable s.drawCount s.dig1 = (q, k)) :
      Transition s .tick { s with
        sel2 := false, seg := q, sel1 := true, muxState := .showDigit1
        outs := [.desel .two, .segw q, .sela .one], drawCount := k }
  | tickTwo {q : Pattern} {k : Nat} (hen : s.muxEn = true) (hmux : s.muxState = .showDigit1)
      (hseg : segPattern s.params.segTable s.drawCount s.dig2 = (q, k)) :
      Transition s .tick { s with
        sel1 := false, seg := q, sel2 := true, muxState := .showDigit2
        outs := [.desel .one, .segw q, .sela .two], drawCount := k }
  | edgeStart (hen : s.debEn = true) (hdeb : s.debState = .armed) :
      Transition s .edge { s with debState := .settling, outs := [.ostart] }
  | pressTrigger {level : BitVec 1} (hen : s.debEn = true) (hdeb : s.debState = .settling) (hlevel : level = 0)
      (hact : s.params.debounceAction = .triggerSample) :
      Transition s (.debexp level) { s with debState := .armed, outs := [.adcgo] }
  | pressToggle {level : BitVec 1} (hen : s.debEn = true) (hdeb : s.debState = .settling) (hlevel : level = 0)
      (hact : s.params.debounceAction = .toggleIndicator) :
      Transition s (.debexp level) { s with indicator := !s.indicator, debState := .armed, outs := [] }
  | release {level : BitVec 1} (hen : s.debEn = true) (hdeb : s.debState = .settling) (hlevel : level = 1) :
      Transition s (.debexp level) { s with debState := .armed, outs := [] }
  | conv {raw : BitVec 12} (hraw : raw.toNat < s.params.rawFullScale) (hen : s.adcEn = true) :
      Transition s (.conv raw) { s with
        sample := raw, cmpShadow := BitVec.ofNat 16 (duty s.params raw.toNat), outs := [] }
  | convRefused {raw : BitVec 12} (hraw : ¬raw.toNat < s.params.rawFullScale) :
      Transition s (.conv raw) (s.refuse .payloadOutOfRange)
  | pwmpb : Transition s .pwmpb { s with cmpActive := s.cmpShadow, outs := [] }
  | bcdpub {n : BitVec 16} {a : BcdAcc} {k : Nat} (hdigits : bcdDigits s.params.bcdOverrange s.drawCount n = (a, k)) :
      Transition s (.bcdpub n) { s with
        dig1 := a.tens.setWidth 8, dig2 := a.units.setWidth 8, outs := [], drawCount := k }
  | ctrlw {en : BitVec 5} : Transition s (.ctrlw en) { s with ctrl := en, outs := [] }

section
variable {s t : State}

theorem receive_transition {b : Byte} (hen : s.rxEn = true) (h : receive b s = .next t) : Transition s (.rxb b) t := by
  obtain ⟨hrx, rfl, rfl⟩ | ⟨hrx, hb, rfl⟩ | ⟨hrx, rfl⟩ | ⟨hrx, rfl⟩ | ⟨hrx, rfl, rfl⟩ | ⟨hrx, hb, rfl⟩ := receive_cases h
  · exact .rxStart hen hrx
  · exact .ignored (.inr ⟨hrx, hb⟩)
  · exact .rxDigit1 hen hrx
  · exact .rxDigit2 hen hrx
  · exact .rxAccept hen hrx
  · exact .rxReject hen hrx hb

theorem sendNext_transition (hen : s.txEn = true) (h : sendNext s = .next t) : Transition s .txrdy t := by
  obtain ⟨htx, rfl⟩ | ⟨htx, rfl⟩ | ⟨htx, rfl⟩ | ⟨htx, rfl⟩ := sendNext_cases h
  · exact .ignored (.inr htx)
  · exact .txDigit1 hen htx
  · exact .txDigit2 hen htx
  · exact .txEnd hen htx

theorem switchDigit_transition (hen : s.muxEn = true) (h : switchDigit s = .next t) : Transition s .tick t := by
  obtain ⟨hmux, rfl⟩ | ⟨hmux, rfl⟩ := switchDigit_cases h
  · exact .tickOne hen hmux rfl
  · exact .tickTwo hen hmux rfl

theorem execDebexp_transition {level : BitVec 1} (h : execDebexp level s = .next t) : Transition s (.debexp level) t := by
  obtain ⟨hno, rfl⟩ | ⟨hen, hdeb, ⟨hlevel, hact, rfl⟩ | ⟨hlevel, hact, rfl⟩ | ⟨hlevel, rfl⟩⟩ := execDebexp_cases h
  · exact .ignored hno
  · exact .pressTrigger hen hdeb ((pressed_iff level).1 hlevel) hact
  · exact .pressToggle hen hdeb ((pressed_iff level).1 hlevel) hact
  · exact .release hen hdeb ((pressed_eq_false_iff level).1 hlevel)

theorem execConv_transition {raw : BitVec 12} (h : execConv raw s = .next t) : Transition s (.conv raw) t := by
  obtain ⟨hraw, hen, rfl⟩ | ⟨hraw, hen, rfl⟩ | ⟨hraw, rfl⟩ := execConv_cases h
  · exact .conv hraw hen
  · exact .ignored ⟨hraw, hen⟩
  · exact .convRefused hraw

theorem exec_transition {i : Instr} (h : exec i s = .next t) : Transition s i t := by
  cases i with
  | rxb b =>
    obtain ⟨hen, h⟩ | ⟨hen, rfl⟩ := execRxb_cases h
    · exact receive_transition hen h
    · exact .ignored (.inl hen)
  | txrdy =>
    obtain ⟨hen, h⟩ | ⟨hen, rfl⟩ := execTxrdy_cases h
    · exact sendNext_transition hen h
    · exact .ignored (.inl hen)
  | arm =>
    obtain ⟨hstart, rfl⟩ | ⟨hno, rfl⟩ := execArm_cases h
    · exact .armStart hstart
    · exact .ignored hno
  | tick =>
    obtain ⟨hen, h⟩ | ⟨hen, rfl⟩ := execTick_cases h
    · exact switchDigit_transition hen h
    · exact .ignored hen
  | edge =>
    obtain ⟨hen, hdeb, rfl⟩ | ⟨hno, rfl⟩ := execEdge_cases h
    · exact .edgeStart hen hdeb
    · exact .ignored hno
  | debexp level => exact execDebexp_transition h
  | conv raw => exact execConv_transition h
  | pwmpb => obtain rfl := execPwmpb_next.1 h; exact .pwmpb
  | bcdpub n => obtain rfl := execBcdpub_next.1 h; exact .bcdpub rfl
  | ctrlw en => obtain rfl := execCtrlw_next.1 h; exact .ctrlw

/-- Gating comes first, so an event ignored for its state may be gated as well. -/
theorem exec_of_ignored {i : Instr} (h : Ignored s i) : exec i s = .next { s with outs := [] } := by
  cases i with
  | rxb b =>
    cases hen : s.rxEn with
    | false => exact exec_rxb_of_rxEn_eq_false hen b
    | true =>
      obtain ⟨hrx, hb⟩ := h.resolve_left (by simp [hen])
      exact (exec_rxb_of_rxEn hen b).trans (receive_ne_symStart_of_idle hrx hb)
  | txrdy =>
    cases hen : s.txEn with
    | false => exact exec_txrdy_of_txEn_eq_false hen
    | true => exact (exec_txrdy_of_txEn hen).trans (sendNext_of_idle (h.resolve_left (by simp [hen])))
  | arm => exact exec_arm_of_canStartEcho_eq_false h
  | tick => exact exec_tick_of_muxEn_eq_false h
  | edge =>
    cases hen : s.debEn with
    | false => exact exec_edge_of_debEn_eq_false hen
    | true => exact (exec_edge_of_debEn hen).trans (onEdge_of_settling (h.resolve_left (by simp [hen])))
  | debexp level =>
    cases hen : s.debEn with
    | false => exact exec_debexp_of_debEn_eq_false hen
    | true => exact (exec_debexp_of_debEn hen).trans (onExpiry_of_armed (h.resolve_left (by simp [hen])))
  | conv raw => exact exec_conv_of_adcEn_eq_false h.1 h.2
  | pwmpb | bcdpub | ctrlw => exact h.elim

theorem Transition.exec_eq {i : Instr} (h : Transition s i t) : exec i s = .next t := by
  cases h with
  | ignored h => exact exec_of_ignored h
  | rxStart hen hrx => exact (exec_rxb_of_rxEn hen _).trans (receive_symStart_of_idle hrx rfl)
  | rxDigit1 hen hrx => exact (exec_rxb_of_rxEn hen _).trans (receive_of_gotStart hrx)
  | rxDigit2 hen hrx => exact (exec_rxb_of_rxEn hen _).trans (receive_of_gotDigit1 hrx)
  | rxAccept hen hrx => exact (exec_rxb_of_rxEn hen _).trans (receive_symEnd_of_gotDigit2 hrx rfl)
  | rxReject hen hrx hb => exact (exec_rxb_of_rxEn hen _).trans (receive_ne_symEnd_of_gotDigit2 hrx hb)
  | armStart hstart => exact exec_arm_of_canStartEcho hstart
  | txDigit1 hen htx => exact (exec_txrdy_of_txEn hen).trans (sendNext_of_sendDigit1 htx)
  | txDigit2 hen htx => exact (exec_txrdy_of_txEn hen).trans (sendNext_of_sendDigit2 htx)
  | txEnd hen htx => exact (exec_txrdy_of_txEn hen).trans (sendNext_of_sendEnd htx)
  | tickOne hen hmux hseg => exact (exec_tick_of_muxEn hen).trans (switchDigit_of_showDigit2 hmux hseg)
  | tickTwo hen hmux hseg => exact (exec_tick_of_muxEn hen).trans (switchDigit_of_showDigit1 hmux hseg)
  | edgeStart hen hdeb => exact (exec_edge_of_debEn hen).trans (onEdge_of_armed hdeb)
  | pressTrigger hen hdeb hlevel hact =>
    exact (exec_debexp_of_debEn hen).trans (onExpiry_zero_of_triggerSample hdeb hlevel hact)
  | pressToggle hen hdeb hlevel hact =>
    exact (exec_debexp_of_debEn hen).trans (onExpiry_zero_of_toggleIndicator hdeb hlevel hact)
  | release hen hdeb hlevel => exact (exec_debexp_of_debEn hen).trans (onExpiry_one_of_settling hdeb hlevel)
  | conv hraw hen => exact exec_conv_of_adcEn hraw hen
  | convRefused hraw => exact if_neg hraw
  | pwmpb => exact execPwmpb_next.2 rfl
  | bcdpub hdigits => exact execBcdpub_next.2 (by rw [hdigits])
  | ctrlw => exact exec_ctrlw _ _

theorem exec_eq_next_iff {i : Instr} : exec i s = .next t ↔ Transition s i t :=
  ⟨exec_transition, Transition.exec_eq⟩

end

/-! ### Every event answers a next state (60_exceptions.md R170) -/

theorem whenEnabled_answersNext {e : Bool} {s : State} {m : State → Result} (h : ∃ t, m s = .next t) :
    ∃ t, whenEnabled e s m = .next t := by
  cases e with
  | false => exact ⟨_, rfl⟩
  | true => exact h

theorem receive_answersNext (b : Byte) (s : State) : ∃ t, receive b s = .next t := by
  unfold receive
  split
  case h_1 | h_4 => split <;> exact ⟨_, rfl⟩
  case h_2 | h_3 => exact ⟨_, rfl⟩

theorem sendNext_answersNext (s : State) : ∃ t, sendNext s = .next t := by
  unfold sendNext
  split <;> exact ⟨_, rfl⟩

theorem switchDigit_answersNext (s : State) : ∃ t, switchDigit s = .next t := by
  unfold switchDigit
  split <;> exact ⟨_, rfl⟩

theorem onEdge_answersNext (s : State) : ∃ t, onEdge s = .next t := by
  unfold onEdge
  split <;> exact ⟨_, rfl⟩

theorem onExpiry_answersNext (level : BitVec 1) (s : State) : ∃ t, onExpiry level s = .next t := by
  unfold onExpiry
  split
  · exact ⟨_, rfl⟩
  · split
    · split <;> exact ⟨_, rfl⟩
    · exact ⟨_, rfl⟩

theorem execArm_answersNext (s : State) : ∃ t, execArm s = .next t := by
  unfold execArm
  split <;> exact ⟨_, rfl⟩

theorem execConv_answersNext (raw : BitVec 12) (s : State) : ∃ t, execConv raw s = .next t := by
  unfold execConv
  split
  · exact whenEnabled_answersNext ⟨_, rfl⟩
  · exact ⟨_, rfl⟩

/-- Settles O15: a gate answers when what it guards does (`whenEnabled_answersNext`), and every meaning does. -/
theorem everyEventAnswersNext : Obligations.EveryEventAnswersNext := by
  intro i s
  cases i with
  | rxb b => exact whenEnabled_answersNext (receive_answersNext b s)
  | txrdy => exact whenEnabled_answersNext (sendNext_answersNext s)
  | arm => exact execArm_answersNext s
  | tick => exact whenEnabled_answersNext (switchDigit_answersNext s)
  | edge => exact whenEnabled_answersNext (onEdge_answersNext s)
  | debexp level => exact whenEnabled_answersNext (onExpiry_answersNext level s)
  | conv raw => exact execConv_answersNext raw s
  | pwmpb | bcdpub | ctrlw => exact ⟨_, rfl⟩

/-! ### The state after an event -/

theorem after_eq_of_exec {i : Instr} {s t : State} (h : exec i s = .next t) : after i s = t := by
  simp only [after, h]

theorem exec_eq_next_after (i : Instr) (s : State) : exec i s = .next (after i s) := by
  obtain ⟨t, ht⟩ := everyEventAnswersNext i s
  rw [after_eq_of_exec ht, ht]

theorem transition_after (i : Instr) (s : State) : Transition s i (after i s) :=
  exec_transition (exec_eq_next_after i s)

theorem Transition.after_eq {i : Instr} {s t : State} (h : Transition s i t) : after i s = t :=
  after_eq_of_exec h.exec_eq

/-! ### What each event leaves unchanged (10_state.md section 1, column "written by") -/

namespace Transition

variable {i : Instr} {s t : State}

theorem params_eq (h : Transition s i t) : t.params = s.params := (exec_sameRun h.exec_eq).params

theorem input_eq (h : Transition s i t) : t.input = s.input := (exec_sameRun h.exec_eq).input

theorem receiver_eq (h : Transition s i t) (hi : codeOf i ≠ .rxb) :
    t.rxState = s.rxState ∧ t.win0 = s.win0 ∧ t.win1 = s.win1 := by
  cases h with
  | rxStart | rxDigit1 | rxDigit2 | rxAccept | rxReject => exact absurd rfl hi
  | _ => exact ⟨rfl, rfl, rfl⟩

theorem digits_eq (h : Transition s i t) (hrxb : codeOf i ≠ .rxb) (hbcdpub : codeOf i ≠ .bcdpub) :
    t.dig1 = s.dig1 ∧ t.dig2 = s.dig2 := by
  cases h with
  | rxAccept => exact absurd rfl hrxb
  | bcdpub => exact absurd rfl hbcdpub
  | _ => exact ⟨rfl, rfl⟩

theorem pktFlag_eq (h : Transition s i t) (hrxb : codeOf i ≠ .rxb) (harm : codeOf i ≠ .arm) :
    t.pktFlag = s.pktFlag := by
  cases h with
  | rxAccept => exact absurd rfl hrxb
  | armStart => exact absurd rfl harm
  | _ => rfl

theorem txState_eq (h : Transition s i t) (harm : codeOf i ≠ .arm) (htxrdy : codeOf i ≠ .txrdy) :
    t.txState = s.txState := by
  cases h with
  | armStart => exact absurd rfl harm
  | txDigit1 | txDigit2 | txEnd => exact absurd rfl htxrdy
  | _ => rfl

theorem display_eq (h : Transition s i t) (hi : codeOf i ≠ .tick) :
    t.muxState = s.muxState ∧ t.sel1 = s.sel1 ∧ t.sel2 = s.sel2 ∧ t.seg = s.seg := by
  cases h with
  | tickOne | tickTwo => exact absurd rfl hi
  | _ => exact ⟨rfl, rfl, rfl, rfl⟩

theorem debState_eq (h : Transition s i t) (hedge : codeOf i ≠ .edge) (hdebexp : codeOf i ≠ .debexp) :
    t.debState = s.debState := by
  cases h with
  | edgeStart => exact absurd rfl hedge
  | pressTrigger | pressToggle | release => exact absurd rfl hdebexp
  | _ => rfl

theorem indicator_eq (h : Transition s i t)
    (hi : codeOf i ≠ .debexp ∨ s.params.debounceAction ≠ .toggleIndicator) : t.indicator = s.indicator := by
  cases h with
  | pressToggle _ _ _ hact => exact (hi.elim (absurd rfl) (absurd hact))
  | _ => rfl

theorem converter_eq (h : Transition s i t) (hi : codeOf i ≠ .conv) :
    t.sample = s.sample ∧ t.cmpShadow = s.cmpShadow := by
  cases h with
  | conv => exact absurd rfl hi
  | _ => exact ⟨rfl, rfl⟩

theorem cmpActive_eq (h : Transition s i t) (hi : codeOf i ≠ .pwmpb) : t.cmpActive = s.cmpActive := by
  cases h with
  | pwmpb => exact absurd rfl hi
  | _ => rfl

theorem ctrl_eq (h : Transition s i t) (hi : codeOf i ≠ .ctrlw) : t.ctrl = s.ctrl := by
  cases h with
  | ctrlw => exact absurd rfl hi
  | _ => rfl

/-- Only an event without a word (log 5) touches the mark, and it records. -/
theorem mark_cases (h : Transition s i t) : t.mark = s.mark ∨ ∃ r, t.mark = s.mark.record r := by
  cases h with
  | convRefused => exact .inr ⟨.payloadOutOfRange, rfl⟩
  | _ => exact .inl rfl

/-- What a step can emit, and from which event (10_state.md section 8, column "emitted by"). -/
theorem outs_cases (h : Transition s i t) :
    t.outs = [] ∨
    (∃ b, (codeOf i = .arm ∨ codeOf i = .txrdy) ∧ t.outs = [.txd b]) ∨
    (∃ k' q k, codeOf i = .tick ∧ t.outs = [.desel k', .segw q, .sela k]) ∨
    (codeOf i = .edge ∧ t.outs = [.ostart]) ∨
    (codeOf i = .debexp ∧ s.params.debounceAction = .triggerSample ∧ t.outs = [.adcgo]) := by
  cases h with
  | armStart => exact .inr (.inl ⟨_, .inl rfl, rfl⟩)
  | txDigit1 | txDigit2 | txEnd => exact .inr (.inl ⟨_, .inr rfl, rfl⟩)
  | tickOne | tickTwo => exact .inr (.inr (.inl ⟨_, _, _, rfl, rfl⟩))
  | edgeStart => exact .inr (.inr (.inr (.inl ⟨rfl, rfl⟩)))
  | pressTrigger _ _ _ hact => exact .inr (.inr (.inr (.inr ⟨rfl, hact, rfl⟩)))
  | _ => exact .inl rfl

end Transition

/-- Settles O35: one frame lemma of `Transition` per row of R20's table. -/
theorem onlyListedEventsWriteElement : Obligations.OnlyListedEventsWriteElement := by
  intro i s t hexec
  have h := exec_transition hexec
  exact ⟨h.receiver_eq, h.digits_eq, h.pktFlag_eq, h.txState_eq, h.display_eq, h.debState_eq, h.indicator_eq,
    h.converter_eq, h.cmpActive_eq, h.ctrl_eq, h.params_eq, h.input_eq⟩

/-- Settles O36: the output lists of `Transition.outs_cases`, each read for the six actions. -/
theorem onlyListedEventsEmitAction : Obligations.OnlyListedEventsEmitAction := by
  intro i s t hexec
  obtain houts | ⟨b, hi, houts⟩ | ⟨k', q, k, hi, houts⟩ | ⟨hi, houts⟩ | ⟨hi, hact, houts⟩ :=
    (exec_transition hexec).outs_cases
  · simp [houts]
  · simp [houts, hi]
  · simp [houts, hi]
  · simp [houts, hi]
  · simp [houts, hi, hact]

end Sys2Proof.Machine

/-! ## One step (00_scope.md R12, 60_exceptions.md R170 and R172) -/

namespace Sys2Proof.Machine

/-- Settles O12: `step_of_decode_ok`. -/
theorem stepRunsDecodedEvent : Obligations.StepRunsDecodedEvent :=
  fun _ _ _ _ hinput hdec => step_of_decode_ok hinput hdec

/-- Settles O13: `step_of_input_nil`. -/
theorem stepWithoutEventHolds : Obligations.StepWithoutEventHolds :=
  fun _ hinput => step_of_input_nil hinput

/-- Settles O14: the decoder answers an event, which answers a next state (O15), or a reason, which is recorded. -/
theorem stepEndsInOneOfTwoWays : Obligations.StepEndsInOneOfTwoWays := by
  intro s w rest hinput
  cases hdec : decode s.params w with
  | ok i =>
    obtain ⟨t, ht⟩ := everyEventAnswersNext i { s with input := rest }
    exact .inl ⟨i, t, rfl, ht, (step_of_decode_ok hinput hdec).trans ht⟩
  | error r => exact .inr ⟨r, rfl, step_of_decode_error hinput hdec⟩

/-- Settles O17: a pause finds no word, an event leaves the input it is given, a refusal drops its word. -/
theorem oneWordPerStep : Obligations.OneWordPerStep := by
  intro s t h
  obtain ⟨hinput, rfl⟩ | ⟨w, rest, i, hinput, -, hexec⟩ | ⟨w, rest, r, hinput, -, rfl⟩ := step_cases h
  · rw [State.emit_input, hinput, List.tail_nil]
  · rw [(exec_transition hexec).input_eq, State.awaiting_input, hinput, List.tail_cons]
  · rw [State.refuse_input, State.awaiting_input, hinput, List.tail_cons]

/-- What a pause, taking a word, a refusal and every event keep, every step keeps. -/
theorem step_keeps {P : State → Prop} (hpause : ∀ s, P s → P (s.emit [])) (htake : ∀ s l, P s → P (s.awaiting l))
    (hrefuse : ∀ s r, P s → P (s.refuse r)) (hevent : ∀ i s t, P s → Transition s i t → P t) {s t : State} (hs : P s)
    (h : step s = .next t) : P t := by
  obtain ⟨-, rfl⟩ | ⟨w, rest, i, -, -, hexec⟩ | ⟨w, rest, r, -, -, rfl⟩ := step_cases h
  · exact hpause s hs
  · exact hevent i _ t (htake s rest hs) (exec_transition hexec)
  · exact hrefuse _ r (htake s rest hs)

/-! ### The refusal mark (R172) -/

theorem record_eq (m : RefusalMark) (r : Invalid) :
    m.record r =
      { reservedBitsSet := m.reservedBitsSet || r == .reservedBitsSet
        reservedOpcode := m.reservedOpcode || r == .reservedOpcode
        payloadOutOfRange := m.payloadOutOfRange || r == .payloadOutOfRange } := by
  rw [← record_reservedBitsSet, ← record_reservedOpcode, ← record_payloadOutOfRange]

/-- A bit of the mark that recording never clears, no step clears. -/
theorem step_keeps_mark_bit {bit : RefusalMark → Bool} (hbit : ∀ m r, bit m = true → bit (m.record r) = true)
    {s t : State} (h : step s = .next t) (hs : bit s.mark = true) : bit t.mark = true := by
  refine step_keeps (P := fun u => bit u.mark = true) (fun _ h => h) (fun _ _ h => h) (fun u r h => hbit u.mark r h)
    (fun i u v hu htrans => ?_) hs h
  obtain hmark | ⟨r, hmark⟩ := htrans.mark_cases
  · exact hmark ▸ hu
  · exact hmark ▸ hbit u.mark r hu

/-- Settles O11: the refused step by `step_of_decode_error`, the mark's form by `record_eq`; no bit is ever cleared
(`step_keeps_mark_bit`). -/
theorem refusalIsStickyAndInert : Obligations.RefusalIsStickyAndInert := by
  refine ⟨fun s w rest r hinput hdec => ?_, fun s t h => ⟨?_, ?_, ?_⟩⟩
  · rw [step_of_decode_error hinput hdec, record_eq]
  · exact step_keeps_mark_bit (bit := RefusalMark.reservedBitsSet) (fun m r hm => by simp [hm]) h
  · exact step_keeps_mark_bit (bit := RefusalMark.reservedOpcode) (fun m r hm => by simp [hm]) h
  · exact step_keeps_mark_bit (bit := RefusalMark.payloadOutOfRange) (fun m r hm => by simp [hm]) h

/-! ## The invariants of 10_state.md R34 -/

/-- Settles O57: `EDGE_IE` and `OST_RUN` are the two tests of the two-valued `DEB_STATE`. -/
theorem edgeEnableAndTimerExclude : Obligations.EdgeEnableAndTimerExclude := by
  intro s
  rw [State.edgeIe, State.ostRun]
  cases s.debState <;> decide

theorem not_edgeIe_and_ostRun (s : State) : ¬(s.edgeIe = true ∧ s.ostRun = true) := by
  obtain ⟨-, -, hnot⟩ := edgeEnableAndTimerExclude s
  rintro ⟨hie, hrun⟩
  rw [hie, hrun] at hnot
  exact absurd hnot (by decide)

theorem rawFullScale_pos (p : Params) : 0 < p.rawFullScale := Nat.two_pow_pos _

/-- Settles O2: no digit is selected, and 0 is below the period and the full scale of any parameters. -/
theorem resetSatisfiesInvariants : Obligations.ResetSatisfiesInvariants := fun p =>
  ⟨nofun, p.pwmTop.val.succ_pos, p.pwmTop.val.succ_pos, rawFullScale_pos p, not_edgeIe_and_ostRun _⟩

namespace Transition

variable {i : Instr} {s t : State}

/-- Only a TICK writes the select lines, and it selects one digit and deselects the other. -/
theorem keeps_one_selected (h : Transition s i t) (hs : ¬(s.sel1 = true ∧ s.sel2 = true)) :
    ¬(t.sel1 = true ∧ t.sel2 = true) := by
  cases h with
  | tickOne | tickTwo => simp
  | _ => exact hs

/-- Only a CONV writes the shadow register, with a legal sample's duty. -/
theorem keeps_cmpShadow_lt (h : Transition s i t) (hs : s.cmpShadow.toNat < s.params.pwmPeriod) :
    t.cmpShadow.toNat < t.params.pwmPeriod := by
  cases h with
  | conv hraw => exact lt_of_eq_of_lt (toNat_ofNat_duty hraw) (duty_lt_pwmPeriod hraw)
  | _ => exact hs

/-- Only a PWMPB writes the active register, with the shadow register's value. -/
theorem keeps_cmpActive_lt (h : Transition s i t) (hshadow : s.cmpShadow.toNat < s.params.pwmPeriod)
    (hactive : s.cmpActive.toNat < s.params.pwmPeriod) : t.cmpActive.toNat < t.params.pwmPeriod := by
  cases h with
  | pwmpb => exact hshadow
  | _ => exact hactive

/-- Only a CONV writes the sample, and only a legal one. -/
theorem keeps_sample_lt (h : Transition s i t) (hs : s.sample.toNat < s.params.rawFullScale) :
    t.sample.toNat < t.params.rawFullScale := by
  cases h with
  | conv hraw => exact hraw
  | _ => exact hs

theorem keeps_stateInv (h : Transition s i t) (hs : StateInv s) : StateInv t := by
  obtain ⟨hsel, hshadow, hactive, hsample, -⟩ := hs
  exact ⟨h.keeps_one_selected hsel, h.keeps_cmpShadow_lt hshadow, h.keeps_cmpActive_lt hshadow hactive,
    h.keeps_sample_lt hsample, not_edgeIe_and_ostRun t⟩

end Transition

/-- Settles O3: every event keeps the four invariants, each by its own lemma (`Transition.keeps_stateInv`); a pause, taking
a word and a refusal write none of the elements they speak of (`step_keeps`). -/
theorem stepKeepsInvariants : Obligations.StepKeepsInvariants := fun _ _ hs h =>
  step_keeps (P := StateInv) (fun _ h => h) (fun _ _ h => h) (fun _ _ h => h) (fun _ _ _ hu ht => ht.keeps_stateInv hu) hs h

/-! ### The display: dark, then lit (R34 invariant 5, 41_display_mux.md R111) -/

namespace Transition

variable {i : Instr} {s t : State}

/-- A TICK that acts lights the display. -/
theorem lit_of_tick (h : Transition s .tick t) (hen : s.muxEn = true) : Lit t := by
  cases h with
  | ignored hno => exact absurd (hen.symm.trans hno) (by decide)
  | tickOne => exact .inl ⟨rfl, rfl, rfl⟩
  | tickTwo => exact .inr ⟨rfl, rfl, rfl⟩

theorem lit_of_noTick_eq_false (h : Transition s i t) (hi : noTick i s = false) : Lit t := by
  rw [noTick, Bool.not_eq_false', Bool.and_eq_true, beq_iff_eq] at hi
  obtain ⟨rfl, hen⟩ := hi
  exact h.lit_of_tick hen

/-- Every other event leaves the display, a gated TICK among them. -/
theorem display_eq_of_noTick (h : Transition s i t) (hi : noTick i s = true) :
    t.muxState = s.muxState ∧ t.sel1 = s.sel1 ∧ t.sel2 = s.sel2 ∧ t.seg = s.seg := by
  cases h with
  | tickOne hen | tickTwo hen => simp [noTick, hen] at hi
  | _ => exact ⟨rfl, rfl, rfl, rfl⟩

theorem keeps_dark_of_noTick (h : Transition s i t) (hi : noTick i s = true) (hs : Dark s) : Dark t := by
  obtain ⟨hmux, hsel1, hsel2, -⟩ := h.display_eq_of_noTick hi
  rwa [Dark, hmux, hsel1, hsel2]

theorem keeps_lit (h : Transition s i t) (hs : Lit s) : Lit t := by
  cases hi : noTick i s with
  | false => exact h.lit_of_noTick_eq_false hi
  | true =>
    obtain ⟨hmux, hsel1, hsel2, -⟩ := h.display_eq_of_noTick hi
    rwa [Lit, hmux, hsel1, hsel2]

theorem keeps_dark_or_lit (h : Transition s i t) (hs : Dark s ∨ Lit s) : Dark t ∨ Lit t := by
  cases hi : noTick i s with
  | false => exact .inr (h.lit_of_noTick_eq_false hi)
  | true => exact hs.imp (h.keeps_dark_of_noTick hi) h.keeps_lit

end Transition

/-- Settles O5: every event keeps each of the two shapes (`Transition.keeps_dark_or_lit`, `Transition.keeps_lit`), and the
rest of a step does not touch the display (`step_keeps`). -/
theorem stepKeepsDisplayShape : Obligations.StepKeepsDisplayShape := fun _ _ h =>
  ⟨fun hs => step_keeps (P := fun u => Dark u ∨ Lit u) (fun _ h => h) (fun _ _ h => h) (fun _ _ h => h)
      (fun _ _ _ hu ht => ht.keeps_dark_or_lit hu) hs h,
   fun hs => step_keeps (P := Lit) (fun _ h => h) (fun _ _ h => h) (fun _ _ h => h)
      (fun _ _ _ hu ht => ht.keeps_lit hu) hs h⟩

/-! ## Runs of events -/

theorem runTo_append (is js : List Instr) (s : State) : runTo (is ++ js) s = runTo js (runTo is s) := by
  induction is generalizing s with
  | nil => rfl
  | cons i is ih => exact ih (after i s)

theorem outputs_append (is js : List Instr) (s : State) :
    outputs (is ++ js) s = outputs is s ++ outputs js (runTo is s) := by
  induction is generalizing s with
  | nil => rfl
  | cons i is ih => exact congrArg ((after i s).outs :: ·) (ih (after i s))

theorem along_cons {cond : Instr → State → Bool} {i : Instr} {is : List Instr} {s : State} :
    along cond (i :: is) s = true ↔ cond i s = true ∧ along cond is (after i s) = true := by
  rw [along, Bool.and_eq_true]

section
variable {cond : Instr → State → Bool} {P : State → Prop}
  (hkeep : ∀ i u t, Transition u i t → cond i u = true → P u → P t)
include hkeep

/-- What every event that meets the condition keeps, a run that meets it all along keeps. -/
theorem runTo_keeps {is : List Instr} {s : State} (hs : P s) (hall : along cond is s = true) : P (runTo is s) := by
  induction is generalizing s with
  | nil => exact hs
  | cons i is ih =>
    obtain ⟨hi, hrest⟩ := along_cons.1 hall
    exact ih (hkeep i s _ (transition_after i s) hi hs) hrest

/-- What holds of the outputs of every such event holds of each output list of the run. -/
theorem outputs_keep {Q : List Action → Prop} (hout : ∀ i u t, Transition u i t → cond i u = true → P u → Q t.outs)
    {is : List Instr} {s : State} (hs : P s) (hall : along cond is s = true) : ∀ l ∈ outputs is s, Q l := by
  induction is generalizing s with
  | nil => nofun
  | cons i is ih =>
    obtain ⟨hi, hrest⟩ := along_cons.1 hall
    have htrans := transition_after i s
    exact List.forall_mem_cons.2 ⟨hout i s _ htrans hi hs, ih (hkeep i s _ htrans hi hs) hrest⟩

end

theorem along_true (is : List Instr) (s : State) : along (fun _ _ => true) is s = true := by
  induction is generalizing s with
  | nil => rfl
  | cons i is ih => exact along_cons.2 ⟨rfl, ih _⟩

theorem runTo_lit (is : List Instr) {s : State} (hs : Lit s) : Lit (runTo is s) :=
  runTo_keeps (P := Lit) (fun _ _ _ h _ hu => h.keeps_lit hu) hs (along_true is s)

/-- The display stays dark or lit until the first TICK that acts, which lights it for good. -/
theorem runTo_lit_of_along_noTick_eq_false {is : List Instr} {s : State} (h : along noTick is s = false) :
    Lit (runTo is s) := by
  induction is generalizing s with
  | nil => cases h
  | cons i is ih =>
    cases hi : noTick i s with
    | false => exact runTo_lit is ((transition_after i s).lit_of_noTick_eq_false hi)
    | true => exact ih (by simpa [along, hi] using h)

theorem xor_of_lit {s : State} (hs : Lit s) : (s.sel1 ^^ s.sel2) = true := by
  obtain ⟨-, hsel1, hsel2⟩ | ⟨-, hsel1, hsel2⟩ := hs <;> rw [hsel1, hsel2] <;> rfl

/-- Settles O4: without an ungated TICK the display stays dark (`Transition.keeps_dark_of_noTick`); after one it is lit. -/
theorem selectLinesFollowFirstTick : Obligations.SelectLinesFollowFirstTick := by
  intro p is
  constructor
  · intro hall
    have hdark : Dark (State.resetWith p) := ⟨rfl, rfl, rfl⟩
    exact (runTo_keeps (P := Dark) (fun _ _ _ h hi hu => h.keeps_dark_of_noTick hi hu) hdark hall).2
  · intro hsome
    exact xor_of_lit (runTo_lit_of_along_noTick_eq_false hsome)

end Sys2Proof.Machine

/-! ## What the display shows (10_state.md R27, R35, R37; 41_display_mux.md R112) -/

namespace Sys2Proof.Machine

/-- Settles O39: a TICK's three actions drive the three latches it writes; no other event emits a display action or writes
a latch. -/
theorem actionsDriveWhatLatchesHold : Obligations.ActionsDriveWhatLatchesHold := by
  intro i s t hexec
  cases exec_transition hexec with
  | tickOne | tickTwo => rfl
  | _ => rfl

/-! ### No glitch within a step (70_reset_and_hazards.md R205) -/

theorem selLevel_inj {p : Params} {a b : Bool} : selLevel p a = selLevel p b ↔ a = b := Bool.xor_left_inj

section
variable {s : State} (hs : Dark s ∨ Lit s)
include hs

theorem sel1_eq_false_of_showDigit2 (hmux : s.muxState = .showDigit2) : s.sel1 = false := by
  obtain ⟨-, hsel1, -⟩ | ⟨hmux', -⟩ | ⟨-, hsel1, -⟩ := hs
  · exact hsel1
  · cases hmux.symm.trans hmux'
  · exact hsel1

theorem sel2_eq_false_of_showDigit1 (hmux : s.muxState = .showDigit1) : s.sel2 = false := by
  obtain ⟨hmux', -⟩ | ⟨-, -, hsel2⟩ | ⟨hmux', -⟩ := hs
  · cases hmux.symm.trans hmux'
  · exact hsel2
  · cases hmux.symm.trans hmux'

theorem sel1_and_sel2_eq_false : (s.sel1 && s.sel2) = false := by
  cases hmux : s.muxState with
  | showDigit1 => rw [sel2_eq_false_of_showDigit1 hs hmux, Bool.and_false]
  | showDigit2 => rw [sel1_eq_false_of_showDigit2 hs hmux, Bool.false_and]

end

/-- Pins that show no glitch when `a` is applied to them: it leaves at most one digit selected, and it is a `SEGW` only
while none is. -/
def NoGlitch (p : Params) (d : DisplayPins) (a : Action) : Prop :=
  ¬((drive p d a).sel1 = selLevel p true ∧ (drive p d a).sel2 = selLevel p true) ∧
  ∀ q, a = .segw q → d.sel1 = selLevel p false ∧ d.sel2 = selLevel p false

/-- `NoGlitch` at every action of a list, each applied after those before it. -/
def NoGlitches (p : Params) : DisplayPins → List Action → Prop
  | _, [] => True
  | d, a :: l => NoGlitch p d a ∧ NoGlitches p (drive p d a) l

theorem NoGlitches.noGlitch_of_append {p : Params} {d : DisplayPins} {done rest : List Action} {a : Action}
    (h : NoGlitches p d (done ++ a :: rest)) : NoGlitch p (driveAll p d done) a := by
  induction done generalizing d with
  | nil => exact h.1
  | cons b done ih => exact ih h.2

theorem driveAll_append_singleton (p : Params) (d : DisplayPins) (done : List Action) (a : Action) :
    driveAll p d (done ++ [a]) = drive p (driveAll p d done) a := by
  rw [driveAll, List.foldl_append]; rfl

/-- One action that drives no display pin, from pins that do not select both digits. -/
theorem noGlitches_singleton {s : State} (hs : Dark s ∨ Lit s) {a : Action}
    (hdrive : drive s.params s.displayPins a = s.displayPins) (ha : ∀ q, a ≠ .segw q) :
    NoGlitches s.params s.displayPins [a] := by
  have hsel := sel1_and_sel2_eq_false hs
  refine ⟨⟨?_, fun q hq => absurd hq (ha q)⟩, trivial⟩
  rw [hdrive]
  simpa [State.displayPins, selLevel_inj] using hsel

/-- The TICK deselects the one digit that may be selected, writes the segments, then selects the other digit. -/
theorem Transition.noGlitches {i : Instr} {s t : State} (h : Transition s i t) (hs : Dark s ∨ Lit s) :
    NoGlitches s.params s.displayPins t.outs := by
  cases h with
  | tickOne _ hmux =>
    have hsel1 := sel1_eq_false_of_showDigit2 hs hmux
    simp [NoGlitches, NoGlitch, drive, State.displayPins, selLevel_inj, hsel1]
  | tickTwo _ hmux =>
    have hsel2 := sel2_eq_false_of_showDigit1 hs hmux
    simp [NoGlitches, NoGlitch, drive, State.displayPins, selLevel_inj, hsel2]
  | armStart | txDigit1 | txDigit2 | txEnd | edgeStart | pressTrigger => exact noGlitches_singleton hs rfl nofun
  | _ => trivial

/-- Settles O40: `Transition.noGlitches`, at the point of the list that is asked for. -/
theorem switchingShowsNoGlitch : Obligations.SwitchingShowsNoGlitch := by
  intro i s t done rest a hs hexec houts
  have h := (exec_transition hexec).noGlitches hs
  rw [houts] at h
  rw [driveAll_append_singleton]
  exact h.noGlitch_of_append

/-! ### Two ticks (R112) -/

/-- The digit a TICK that acts selects next. -/
def MuxState.nextDigit : MuxState → DigitPos
  | .showDigit1 => .two
  | .showDigit2 => .one

/-- The digit it deselects, the one that `MUX_STATE` names. -/
def MuxState.shownDigit : MuxState → DigitPos
  | .showDigit1 => .one
  | .showDigit2 => .two

theorem MuxState.shownDigit_ne_nextDigit (m : MuxState) : m.shownDigit ≠ m.nextDigit := by
  cases m <;> decide

/-- A TICK that acts emits its actions in R111's order, and the next one swaps the two digits. -/
theorem Transition.tick_outs {s t : State} (h : Transition s .tick t) (hen : s.muxEn = true) :
    (∃ q, t.outs = [.desel s.muxState.shownDigit, .segw q, .sela s.muxState.nextDigit]) ∧
    t.muxState.shownDigit = s.muxState.nextDigit ∧ t.muxState.nextDigit = s.muxState.shownDigit := by
  cases h with
  | ignored hno => exact absurd (hen.symm.trans hno) (by decide)
  | tickOne _ hmux | tickTwo _ hmux => rw [hmux]; exact ⟨⟨_, rfl⟩, rfl, rfl⟩

theorem runTo_muxState {is : List Instr} {s : State} (hall : along noTick is s = true) :
    (runTo is s).muxState = s.muxState :=
  runTo_keeps (P := fun u => u.muxState = s.muxState) (fun _ _ _ h hi hu => (h.display_eq_of_noTick hi).1.trans hu) rfl
    hall

/-- Settles O41: each TICK by `Transition.tick_outs`; `MUX_STATE` does not change between them (`runTo_muxState`). -/
theorem twoTicksShowEachDigitOnce : Obligations.TwoTicksShowEachDigitOnce := by
  intro s gap hen hgap hen'
  obtain ⟨⟨q, hfirst⟩, hshown, hnext⟩ := (transition_after .tick s).tick_outs hen
  obtain ⟨⟨q', hsecond⟩, -⟩ := (transition_after .tick (runTo gap (after .tick s))).tick_outs hen'
  rw [runTo_muxState hgap, hshown, hnext] at hsecond
  exact ⟨s.muxState.nextDigit, s.muxState.shownDigit, q, q', s.muxState.shownDigit_ne_nextDigit.symm, hfirst, hsecond⟩

end Sys2Proof.Machine

/-! ## The framer, receive side: publications and frames (42_framer_rx.md R123, R124) -/

namespace Sys2Proof.Machine

/-! ### The frame reader -/

theorem frames_eq_nil_of_length_lt {l : List Byte} (h : l.length < 4) : frames l = [] := by
  match l, h with
  | [], _ | [_], _ | [_, _], _ | [_, _, _], _ => rfl

theorem frames_cons_four (b0 b1 b2 b3 : Byte) (l : List Byte) :
    frames (b0 :: b1 :: b2 :: b3 :: l) =
      if b0 = symStart then if b3 = symEnd then (b1, b2) :: frames l else frames l
      else frames (b1 :: b2 :: b3 :: l) := by
  rw [frames]; rfl

theorem frames_cons_of_ne {b : Byte} (hb : b ≠ symStart) (l : List Byte) : frames (b :: l) = frames l := by
  match l with
  | b1 :: b2 :: b3 :: rest => rw [frames_cons_four, if_neg hb]
  | [] | [_] | [_, _] => rw [frames_eq_nil_of_length_lt (by simp), frames_eq_nil_of_length_lt (by simp)]

/-! ### What the receiver has read of a frame -/

/-- The bytes of the frame that is being received: the receive state says how many, the window holds the candidates. -/
def State.partialFrame (s : State) : List Byte :=
  match s.rxState with
  | .idle => []
  | .gotStart => [symStart]
  | .gotDigit1 => [symStart, s.win0]
  | .gotDigit2 => [symStart, s.win0, s.win1]

section
variable {s : State}

theorem partialFrame_of_idle (h : s.rxState = .idle) : s.partialFrame = [] := by
  rw [State.partialFrame, h]

theorem partialFrame_of_gotStart (h : s.rxState = .gotStart) : s.partialFrame = [symStart] := by
  rw [State.partialFrame, h]

theorem partialFrame_of_gotDigit1 (h : s.rxState = .gotDigit1) : s.partialFrame = [symStart, s.win0] := by
  rw [State.partialFrame, h]

theorem partialFrame_of_gotDigit2 (h : s.rxState = .gotDigit2) : s.partialFrame = [symStart, s.win0, s.win1] := by
  rw [State.partialFrame, h]

end

theorem frames_partialFrame (s : State) : frames s.partialFrame = [] := by
  apply frames_eq_nil_of_length_lt
  unfold State.partialFrame
  split <;> simp

theorem partialFrame_congr {s t : State} (hrx : t.rxState = s.rxState) (hwin0 : t.win0 = s.win0) (hwin1 : t.win1 = s.win1) :
    t.partialFrame = s.partialFrame := by
  rw [State.partialFrame, hrx, hwin0, hwin1, State.partialFrame]

/-! ### Which step publishes -/

/-- From the flag at 0, only the accepting RXB reaches the flag at 1. -/
theorem Transition.accepts_of_pktFlag {i : Instr} {s t : State} (h : Transition s i t) (hs : s.pktFlag = false)
    (ht : t.pktFlag = true) : i = .rxb symEnd ∧ s.rxEn = true ∧ s.rxState = .gotDigit2 := by
  cases h with
  | rxAccept hen hrx => exact ⟨rfl, hen, hrx⟩
  | armStart => cases ht
  | _ => cases hs.symm.trans ht

theorem publishes_iff {i : Instr} {s : State} :
    publishes i s = true ↔ i = .rxb symEnd ∧ s.rxEn = true ∧ s.rxState = .gotDigit2 := by
  constructor
  · exact (transition_after i { s with pktFlag := false }).accepts_of_pktFlag rfl
  · rintro ⟨rfl, hen, hrx⟩
    rw [publishes, (Transition.rxAccept (s := { s with pktFlag := false }) hen hrx).after_eq]

/-! ### The receiver reads frames -/

theorem ungatedBytes_rxb {s : State} (hen : s.rxEn = true) (b : Byte) (is : List Instr) :
    ungatedBytes s.ctrl (.rxb b :: is) = b :: ungatedBytes s.ctrl is := if_pos hen

theorem ungatedBytes_rxb_of_rxEn_eq_false {s : State} (hen : s.rxEn = false) (b : Byte) (is : List Instr) :
    ungatedBytes s.ctrl (.rxb b :: is) = ungatedBytes s.ctrl is := if_neg (Bool.eq_false_iff.1 hen)

theorem ungatedBytes_of_ne_rxb {i : Instr} {s t : State} (h : Transition s i t) (hi : codeOf i ≠ .rxb)
    (is : List Instr) : ungatedBytes s.ctrl (i :: is) = ungatedBytes t.ctrl is := by
  cases i with
  | rxb => exact absurd rfl hi
  | ctrlw en =>
    cases h with
    | ignored hno => exact hno.elim
    | ctrlw => rfl
  | _ => rw [h.ctrl_eq nofun]; rfl

/-- The frames still to be read: of the bytes read so far for one, then of the ungated bytes to come. -/
def State.framesAhead (s : State) (is : List Instr) : List (Byte × Byte) :=
  frames (s.partialFrame ++ ungatedBytes s.ctrl is)

theorem Transition.framesAhead_of_ne_rxb {i : Instr} {s t : State} (h : Transition s i t) (hi : codeOf i ≠ .rxb)
    (is : List Instr) : s.framesAhead (i :: is) = t.framesAhead is := by
  obtain ⟨hrx, hwin0, hwin1⟩ := h.receiver_eq hi
  rw [State.framesAhead, State.framesAhead, ungatedBytes_of_ne_rxb h hi, partialFrame_congr hrx hwin0 hwin1]

theorem Transition.framesAhead_rxb {b : Byte} {s t : State} (h : Transition s (.rxb b) t) (is : List Instr) :
    s.framesAhead (.rxb b :: is) =
      if publishes (.rxb b) s then (s.win0, s.win1) :: t.framesAhead is else t.framesAhead is := by
  cases h with
  | ignored hno =>
    cases hen : s.rxEn with
    | false =>
      rw [if_neg (by simp [publishes_iff, hen]), State.framesAhead, ungatedBytes_rxb_of_rxEn_eq_false hen]
      rfl
    | true =>
      obtain ⟨hrx, hb⟩ := hno.resolve_left (by simp [hen])
      rw [if_neg (by simp [publishes_iff, hrx]), State.framesAhead, State.framesAhead, ungatedBytes_rxb hen,
        partialFrame_of_idle hrx, partialFrame_of_idle (s := { s with outs := [] }) hrx]
      exact frames_cons_of_ne hb _
  | rxStart hen hrx =>
    rw [if_neg (by simp [publishes_iff, hrx]), State.framesAhead, ungatedBytes_rxb hen, partialFrame_of_idle hrx]
    rfl
  | rxDigit1 hen hrx =>
    rw [if_neg (by simp [publishes_iff, hrx]), State.framesAhead, ungatedBytes_rxb hen, partialFrame_of_gotStart hrx]
    rfl
  | rxDigit2 hen hrx =>
    rw [if_neg (by simp [publishes_iff, hrx]), State.framesAhead, ungatedBytes_rxb hen, partialFrame_of_gotDigit1 hrx]
    rfl
  | rxAccept hen hrx =>
    rw [if_pos (publishes_iff.2 ⟨rfl, hen, hrx⟩), State.framesAhead, ungatedBytes_rxb hen,
      partialFrame_of_gotDigit2 hrx]
    exact (frames_cons_four ..).trans ((if_pos rfl).trans (if_pos rfl))
  | rxReject hen hrx hb =>
    rw [if_neg (by simp [publishes_iff, hb]), State.framesAhead, ungatedBytes_rxb hen, partialFrame_of_gotDigit2 hrx]
    exact (frames_cons_four ..).trans ((if_pos rfl).trans (if_neg hb))

theorem codeOf_eq_rxb_iff {i : Instr} : codeOf i = .rxb ↔ ∃ b, i = .rxb b := by
  cases i <;> simp [codeOf]

/-- Whatever is delivered, what is published is what was ahead to be read. -/
theorem publications_eq_framesAhead (is : List Instr) (s : State) : publications is s = s.framesAhead is := by
  induction is generalizing s with
  | nil => rw [State.framesAhead, ungatedBytes, List.append_nil, frames_partialFrame, publications]
  | cons i is ih =>
    have h := transition_after i s
    rw [publications, ih]
    by_cases hi : codeOf i = .rxb
    · obtain ⟨b, rfl⟩ := codeOf_eq_rxb_iff.1 hi
      exact (h.framesAhead_rxb is).symm
    · rw [if_neg (fun hpub => hi (by rw [(publishes_iff.1 hpub).1]; rfl)), h.framesAhead_of_ne_rxb hi]

/-- Settles O42: `publications_eq_framesAhead` from Idle, where no byte of a frame has been read. -/
theorem publicationsAreFrames : Obligations.PublicationsAreFrames := by
  intro is s hrx
  rw [publications_eq_framesAhead, State.framesAhead, partialFrame_of_idle hrx, List.nil_append]

/-! ### A second packet (R124) -/

/-- Settles O43: the four rows of R121 for a frame, one after the other. -/
theorem secondPacketOverwrites : Obligations.SecondPacketOverwrites := by
  intro s b1 b2 hen hrx hflag
  have h1 : after (.rxb 0x73) s = { s with rxState := .gotStart, outs := [] } :=
    (Transition.rxStart hen hrx).after_eq
  have h2 : after (.rxb b1) { s with rxState := .gotStart, outs := [] } =
      { s with win0 := b1, rxState := .gotDigit1, outs := [] } := Transition.after_eq (.rxDigit1 hen rfl)
  have h3 : after (.rxb b2) { s with win0 := b1, rxState := .gotDigit1, outs := [] } =
      { s with win0 := b1, win1 := b2, rxState := .gotDigit2, outs := [] } := Transition.after_eq (.rxDigit2 hen rfl)
  have h4 : after (.rxb 0x74) { s with win0 := b1, win1 := b2, rxState := .gotDigit2, outs := [] } =
      { s with win0 := b1, win1 := b2, dig1 := b1 - 0x30, dig2 := b2 - 0x30, outs := [] } := by
    have h := Transition.rxAccept (s := { s with win0 := b1, win1 := b2, rxState := .gotDigit2, outs := [] }) hen rfl
    exact h.after_eq.trans (by rw [← hrx, ← hflag]; rfl)
  simp only [outputs, runTo, h1, h2, h3, h4, and_self]

end Sys2Proof.Machine

/-! ## The framer, transmit side: which bytes are sent (43_framer_tx.md R132, R133) -/

namespace Sys2Proof.Machine

/-! ### Which step sends (R133) -/

/-- An event sends no byte and leaves `TX_STATE`, or it is the ARM that starts an echo or a TXRDY in one, and sends one. -/
theorem Transition.sends_cases {i : Instr} {s t : State} (h : Transition s i t) :
    (txBytes t.outs = [] ∧ t.txState = s.txState) ∨
    ((i = .arm ∧ s.canStartEcho = true ∨ i = .txrdy ∧ s.txEn = true ∧ s.txState ≠ .idle) ∧ ∃ b, txBytes t.outs = [b]) := by
  cases h with
  | armStart hstart => exact .inr ⟨.inl ⟨rfl, hstart⟩, _, rfl⟩
  | txDigit1 hen htx | txDigit2 hen htx | txEnd hen htx => exact .inr ⟨.inr ⟨rfl, hen, by simp [htx]⟩, _, rfl⟩
  | _ => exact .inl ⟨rfl, rfl⟩

/-- Settles O45: `Transition.sends_cases`. -/
theorem atMostOneBytePerStep : Obligations.AtMostOneBytePerStep := by
  intro i s t hexec
  obtain ⟨hnone, -⟩ | ⟨hsender, b, hone⟩ := (exec_transition hexec).sends_cases
  · simp [hnone]
  · rw [hone]
    exact ⟨Nat.le_refl 1, fun _ => hsender.imp_left fun ⟨hi, hstart⟩ => ⟨hi, canStartEcho_eq_true_iff.1 hstart⟩⟩

/-- Settles O55: the two events that send (`Transition.sends_cases`) are those that E3 and E4 forbid to a busy register. -/
theorem dutiesPreventOverrun : Obligations.DutiesPreventOverrun := by
  intro free i s t hduty hexec hsent
  obtain ⟨hnone, -⟩ | ⟨⟨rfl, hstart⟩ | ⟨rfl, -, hbusy⟩, -⟩ := (exec_transition hexec).sends_cases
  · exact absurd hnone hsent
  · simpa [mayDeliver, hstart] using hduty
  · simpa [mayDeliver, hbusy] using hduty

/-! ### What a run without the acting events keeps -/

theorem txBytes_flatten_eq_nil {ls : List (List Action)} (h : ∀ l ∈ ls, txBytes l = []) : txBytes ls.flatten = [] := by
  rw [txBytes, List.filterMap_flatten, List.flatten_eq_nil_iff]
  simpa [txBytes] using h

theorem noEchoStart_of_busy {s : State} (hbusy : s.txState ≠ .idle) (i : Instr) : noEchoStart i s = true := by
  rw [noEchoStart, canStartEcho_eq_false_iff.2 (.inr hbusy), Bool.and_false, Bool.not_false]

theorem Transition.silent {i : Instr} {s t : State} (h : Transition s i t) (harm : noEchoStart i s = true)
    (htxrdy : noTxrdy i s = true ∨ s.txState = .idle) : txBytes t.outs = [] ∧ t.txState = s.txState := by
  obtain hsilent | ⟨⟨rfl, hstart⟩ | ⟨rfl, hen, hbusy⟩, -⟩ := h.sends_cases
  · exact hsilent
  · simp [noEchoStart, hstart] at harm
  · simp [noTxrdy, hen, hbusy] at htxrdy

section
variable {is : List Instr} {s : State}

/-- From Idle, only the ARM that starts an echo sends. -/
theorem silent_run_of_idle (hidle : s.txState = .idle) (hall : along noEchoStart is s = true) :
    txBytes (outputs is s).flatten = [] := by
  refine txBytes_flatten_eq_nil (outputs_keep (P := fun u => u.txState = .idle) ?_ ?_ hidle hall)
  · exact fun i u t h harm hu => (h.silent harm (.inr hu)).2.trans hu
  · exact fun i u t h harm hu => (h.silent harm (.inr hu)).1

/-- During an echo, only an ungated TXRDY sends or moves on. -/
theorem silent_run_of_busy (hbusy : s.txState ≠ .idle) (hall : along noTxrdy is s = true) :
    (runTo is s).txState = s.txState ∧ txBytes (outputs is s).flatten = [] := by
  have hstep : ∀ i u t, Transition u i t → noTxrdy i u = true → u.txState = s.txState →
      txBytes t.outs = [] ∧ t.txState = u.txState := fun i u t h htxrdy hu =>
    h.silent (noEchoStart_of_busy (hu ▸ hbusy) i) (.inl htxrdy)
  have hkeep : ∀ i u t, Transition u i t → noTxrdy i u = true → u.txState = s.txState → t.txState = s.txState :=
    fun i u t h htxrdy hu => (hstep i u t h htxrdy hu).2.trans hu
  exact ⟨runTo_keeps (P := fun u => u.txState = s.txState) hkeep rfl hall,
    txBytes_flatten_eq_nil (outputs_keep (P := fun u => u.txState = s.txState) hkeep
      (fun i u t h htxrdy hu => (hstep i u t h htxrdy hu).1) rfl hall)⟩

theorem Transition.win0_eq {i : Instr} {t : State} (h : Transition s i t) (hi : noByteIn .gotStart i s = true) :
    t.win0 = s.win0 := by
  cases h with
  | rxDigit1 hen hrx => simp [noByteIn, codeOf, hen, hrx] at hi
  | _ => rfl

theorem Transition.win1_eq {i : Instr} {t : State} (h : Transition s i t) (hi : noByteIn .gotDigit1 i s = true) :
    t.win1 = s.win1 := by
  cases h with
  | rxDigit2 hen hrx => simp [noByteIn, codeOf, hen, hrx] at hi
  | _ => rfl

theorem runTo_win0 (hall : along (noByteIn .gotStart) is s = true) : (runTo is s).win0 = s.win0 :=
  runTo_keeps (P := fun u => u.win0 = s.win0) (fun _ _ _ h hi hu => (h.win0_eq hi).trans hu) rfl hall

theorem runTo_win1 (hall : along (noByteIn .gotDigit1) is s = true) : (runTo is s).win1 = s.win1 :=
  runTo_keeps (P := fun u => u.win1 = s.win1) (fun _ _ _ h hi hu => (h.win1_eq hi).trans hu) rfl hall

/-- Only the ARM that starts an echo clears the flag. -/
theorem Transition.keeps_pktFlag {i : Instr} {t : State} (h : Transition s i t) (hi : noEchoStart i s = true)
    (hs : s.pktFlag = true) : t.pktFlag = true := by
  cases h with
  | armStart hstart => simp [noEchoStart, hstart] at hi
  | rxAccept => rfl
  | _ => exact hs

theorem runTo_pktFlag (hs : s.pktFlag = true) (hall : along noEchoStart is s = true) : (runTo is s).pktFlag = true :=
  runTo_keeps (P := fun u => u.pktFlag = true) (fun _ _ _ h hi hu => h.keeps_pktFlag hi hu) hs hall

end

/-! ### The echo (R132) -/

theorem after_arm_of_flagged {s : State} (hflag : s.pktFlag = true) (hidle : s.txState = .idle) :
    after .arm s = { s with pktFlag := false, txState := .sendDigit1, outs := [.txd symStart] } :=
  (Transition.armStart (canStartEcho_eq_true_iff.2 ⟨hflag, hidle⟩)).after_eq

/-- Settles O44: the ARM finds the flag still up (`runTo_pktFlag`); between the four events `TX_STATE` waits and nothing is
sent (`silent_run_of_busy`); and the window cells are what they were at the start when they are sent (`runTo_win0`,
`runTo_win1`). -/
theorem echoReturnsAcceptedPacket : Obligations.EchoReturnsAcceptedPacket := by
  constructor
  · intro r hen hrx
    have haccept : after (.rxb 0x74) r = _ := (Transition.rxAccept hen hrx).after_eq
    rw [haccept]
    exact ⟨rfl, rfl, rfl, rfl⟩
  · intro s s1 s2 s3 s4 g0 g1 g2 g3 hflag hs1 hs2 hs3 hs4 hg0 hidle hg1 hg2 hg3 hen2 hen3 hen4 hw0g0 hw0g1 hw1g0
      hw1g1 hw1g2
    have hflag1 : s1.pktFlag = true := hs1 ▸ runTo_pktFlag hflag hg0
    have harm := after_arm_of_flagged hflag1 hidle
    obtain ⟨htx2, hsilent1⟩ := silent_run_of_busy (by rw [harm]; nofun) hg1
    rw [← hs2, harm] at htx2
    have hsend1 := (Transition.txDigit1 hen2 htx2).after_eq
    obtain ⟨htx3, hsilent2⟩ := silent_run_of_busy (by rw [hsend1]; nofun) hg2
    rw [← hs3, hsend1] at htx3
    have hsend2 := (Transition.txDigit2 hen3 htx3).after_eq
    obtain ⟨htx4, hsilent3⟩ := silent_run_of_busy (by rw [hsend2]; nofun) hg3
    rw [← hs4, hsend2] at htx4
    have hsend3 := (Transition.txEnd hen4 htx4).after_eq
    have hwin0 : s2.win0 = s.win0 :=
      calc s2.win0 = (after .arm s1).win0 := hs2 ▸ runTo_win0 hw0g1
        _ = s1.win0 := by rw [harm]
        _ = s.win0 := hs1 ▸ runTo_win0 hw0g0
    have hwin1 : s3.win1 = s.win1 :=
      calc s3.win1 = (after .txrdy s2).win1 := hs3 ▸ runTo_win1 hw1g2
        _ = s2.win1 := by rw [hsend1]
        _ = (after .arm s1).win1 := hs2 ▸ runTo_win1 hw1g1
        _ = s1.win1 := by rw [harm]
        _ = s.win1 := hs1 ▸ runTo_win1 hw1g0
    exact ⟨by rw [harm]; rfl, by rw [hsend1, hwin0], by rw [hsend2, hwin1], by rw [hsend3]; rfl, by rw [hsend3],
      fun h => silent_run_of_idle h hg0, hsilent1, hsilent2, hsilent3⟩

/-! ## The debouncer along a run (44_debouncer.md R143, R181, R210) -/

/-- Settles O47: `OSTART` is the output of one row, an acting EDGE in Armed. -/
theorem timerNeverRestarted : Obligations.TimerNeverRestarted := by
  intro i s t hexec hostart
  cases exec_transition hexec with
  | edgeStart _ hdeb => simp [State.ostRun, State.edgeIe, hdeb]
  | _ => simp at hostart

/-- In Settling, only an ungated expiry moves the debouncer or acts. -/
theorem Transition.settling_locked {i : Instr} {s t : State} (h : Transition s i t) (hi : noExpiry i s = true)
    (hs : s.debState = .settling) :
    t.debState = .settling ∧ t.indicator = s.indicator ∧ Action.ostart ∉ t.outs ∧ Action.adcgo ∉ t.outs := by
  cases h with
  | edgeStart _ hdeb => cases hs.symm.trans hdeb
  | pressTrigger hen | pressToggle hen | release hen => simp [noExpiry, codeOf, hen] at hi
  | _ => exact ⟨hs, rfl, by simp, by simp⟩

/-- Settles O48: `Transition.settling_locked` along the run. -/
theorem lostExpiryLocksOut : Obligations.LostExpiryLocksOut := by
  intro is s hs hall
  have hkeep : ∀ i u t, Transition u i t → noExpiry i u = true →
      (u.debState = .settling ∧ u.indicator = s.indicator) → (t.debState = .settling ∧ t.indicator = s.indicator) := by
    rintro i u t h hi ⟨hdeb, hind⟩
    obtain ⟨hdeb', hind', -⟩ := h.settling_locked hi hdeb
    exact ⟨hdeb', hind'.trans hind⟩
  obtain ⟨hdeb, hind⟩ := runTo_keeps (P := fun u => u.debState = .settling ∧ u.indicator = s.indicator) hkeep ⟨hs, rfl⟩ hall
  refine ⟨hdeb, hind, outputs_keep hkeep (fun i u t h hi hu => ?_) ⟨hs, rfl⟩ hall⟩
  exact (h.settling_locked hi hu.1).2.2

/-! ### A bouncing press (R143) -/

/-- Bounces after the first EDGE change nothing but the output list, and emit nothing. -/
theorem bounces_ignored (n : Nat) {s : State} (hdeb : s.debState = .settling) :
    outputs (List.replicate n .edge) s = List.replicate n [] ∧
    ∃ l, runTo (List.replicate n .edge) s = { s with outs := l } := by
  induction n generalizing s with
  | zero => exact ⟨rfl, s.outs, rfl⟩
  | succ n ih =>
    have hedge : after .edge s = { s with outs := [] } := (Transition.ignored (i := .edge) (Or.inr hdeb)).after_eq
    obtain ⟨houts, l, hrun⟩ := ih (s := { s with outs := [] }) hdeb
    rw [List.replicate_succ, outputs, runTo, hedge, houts, hrun]
    exact ⟨rfl, l, rfl⟩

/-- An ungated expiry in Settling, both levels and both actions at once. -/
theorem after_debexp_of_settling {s : State} (hen : s.debEn = true) (hdeb : s.debState = .settling) (level : BitVec 1) :
    after (.debexp level) s = { s with
      debState := .armed
      indicator := if level = 0 ∧ s.params.debounceAction = .toggleIndicator then !s.indicator else s.indicator
      outs := if level = 0 ∧ s.params.debounceAction = .triggerSample then [.adcgo] else [] } := by
  cases hpressed : pressed level with
  | false =>
    have hlevel := (pressed_eq_false_iff level).1 hpressed
    rw [(Transition.release hen hdeb hlevel).after_eq, hlevel]
    rfl
  | true =>
    have hlevel := (pressed_iff level).1 hpressed
    cases hact : s.params.debounceAction with
    | triggerSample => rw [(Transition.pressTrigger hen hdeb hlevel hact).after_eq, hlevel]; rfl
    | toggleIndicator => rw [(Transition.pressToggle hen hdeb hlevel hact).after_eq, hlevel]; rfl

/-- Settles O46: the first EDGE starts the timer, the others are ignored (`bounces_ignored`), and the expiry acts by its
level and re-arms (`after_debexp_of_settling`). -/
theorem bouncingPressActsOnce : Obligations.BouncingPressActsOnce := by
  intro s n level hen hdeb
  have hfirst : after .edge s = { s with debState := .settling, outs := [.ostart] } :=
    (Transition.edgeStart hen hdeb).after_eq
  obtain ⟨hbounces, l, hrun⟩ := bounces_ignored n (s := { s with debState := .settling, outs := [.ostart] }) rfl
  have hlast := after_debexp_of_settling (s := { s with debState := .settling, outs := l }) hen rfl level
  rw [List.replicate_succ, List.cons_append, outputs, runTo, outputs_append, runTo_append, hfirst, hbounces, hrun]
  simp only [outputs, runTo, hlast, hdeb, List.cons_append, and_self]

/-! ## A disabled unit stays frozen (70_reset_and_hazards.md R209) -/

namespace Transition

variable {i : Instr} {s t : State}

theorem receiver_eq_of_rxEn_eq_false (h : Transition s i t) (hoff : s.rxEn = false) :
    t.rxState = s.rxState ∧ t.win0 = s.win0 ∧ t.win1 = s.win1 := by
  cases h with
  | rxStart hen | rxDigit1 hen | rxDigit2 hen | rxAccept hen | rxReject hen => cases hoff.symm.trans hen
  | _ => exact ⟨rfl, rfl, rfl⟩

/-- An ARM starts no echo while one is in progress. -/
theorem txState_eq_of_txEn_eq_false (h : Transition s i t) (hoff : s.txEn = false) (hbusy : s.txState ≠ .idle) :
    t.txState = s.txState :=
  (h.silent (noEchoStart_of_busy hbusy i) (.inl (by rw [noTxrdy, hoff, Bool.and_false, Bool.not_false]))).2

theorem display_eq_of_muxEn_eq_false (h : Transition s i t) (hoff : s.muxEn = false) :
    t.muxState = s.muxState ∧ t.sel1 = s.sel1 ∧ t.sel2 = s.sel2 ∧ t.seg = s.seg :=
  h.display_eq_of_noTick (by rw [noTick, hoff, Bool.and_false, Bool.not_false])

theorem debouncer_eq_of_debEn_eq_false (h : Transition s i t) (hoff : s.debEn = false) :
    t.debState = s.debState ∧ t.indicator = s.indicator := by
  cases h with
  | edgeStart hen | pressTrigger hen | pressToggle hen | release hen => cases hoff.symm.trans hen
  | _ => exact ⟨rfl, rfl⟩

theorem converter_eq_of_adcEn_eq_false (h : Transition s i t) (hoff : s.adcEn = false) :
    t.sample = s.sample ∧ t.cmpShadow = s.cmpShadow := by
  cases h with
  | conv _ hen => cases hoff.symm.trans hen
  | _ => exact ⟨rfl, rfl⟩

end Transition

/-- What every event keeps while an enable bit is 0, a run without a CTRLW keeps. -/
theorem runTo_keeps_of_disabled {k : Nat} {P : State → Prop}
    (hkeep : ∀ i u t, Transition u i t → u.ctrl.getLsbD k = false → P u → P t) {is : List Instr} {s : State}
    (hall : along noControl is s = true) (hoff : s.ctrl.getLsbD k = false) (hs : P s) : P (runTo is s) := by
  refine (runTo_keeps (P := fun u => u.ctrl.getLsbD k = false ∧ P u) ?_ ⟨hoff, hs⟩ hall).2
  rintro i u t h hi ⟨hbit, hu⟩
  have hctrl : t.ctrl = u.ctrl := h.ctrl_eq (by simpa [noControl] using hi)
  exact ⟨hctrl ▸ hbit, hkeep i u t h hbit hu⟩

/-- Settles O49: each unit by its own lemma, what a disabled unit holds being kept along the run. -/
theorem disabledUnitStaysFrozen : Obligations.DisabledUnitStaysFrozen := by
  refine fun is s hall => ⟨fun hoff => ?_, fun hoff hbusy => ?_, fun hoff => ?_, fun hoff => ?_, fun hoff => ?_⟩
  · refine runTo_keeps_of_disabled (P := fun u => u.rxState = s.rxState ∧ u.win0 = s.win0 ∧ u.win1 = s.win1)
      (fun i u t h hoff hu => ?_) hall hoff ⟨rfl, rfl, rfl⟩
    obtain ⟨hrx, hwin0, hwin1⟩ := h.receiver_eq_of_rxEn_eq_false hoff
    rwa [hrx, hwin0, hwin1]
  · refine runTo_keeps_of_disabled (P := fun u => u.txState = s.txState) (fun i u t h hoff hu => ?_) hall hoff rfl
    exact (h.txState_eq_of_txEn_eq_false hoff (hu ▸ hbusy)).trans hu
  · refine runTo_keeps_of_disabled
      (P := fun u => u.muxState = s.muxState ∧ u.sel1 = s.sel1 ∧ u.sel2 = s.sel2 ∧ u.seg = s.seg)
      (fun i u t h hoff hu => ?_) hall hoff ⟨rfl, rfl, rfl, rfl⟩
    obtain ⟨hmux, hsel1, hsel2, hseg⟩ := h.display_eq_of_muxEn_eq_false hoff
    rwa [hmux, hsel1, hsel2, hseg]
  · refine runTo_keeps_of_disabled (P := fun u => u.debState = s.debState ∧ u.indicator = s.indicator)
      (fun i u t h hoff hu => ?_) hall hoff ⟨rfl, rfl⟩
    obtain ⟨hdeb, hind⟩ := h.debouncer_eq_of_debEn_eq_false hoff
    rwa [hdeb, hind]
  · refine runTo_keeps_of_disabled (P := fun u => u.sample = s.sample ∧ u.cmpShadow = s.cmpShadow)
      (fun i u t h hoff hu => ?_) hall hoff ⟨rfl, rfl⟩
    obtain ⟨hsample, hshadow⟩ := h.converter_eq_of_adcEn_eq_false hoff
    rwa [hsample, hshadow]

end Sys2Proof.Machine

/-! ## The duty mapping and the double buffer (45_sampler_pwm.md section 4, 20_memory.md R58) -/

namespace Sys2Proof.Machine

theorem duty_le_duty (p : Params) {a b : Nat} (h : a ≤ b) : duty p a ≤ duty p b :=
  Nat.div_le_div_right (Nat.mul_le_mul_right _ h)

/-- The top sample misses the full period by one unit, and by one more for each full scale in the rest of the period. -/
theorem duty_top (p : Params) :
    duty p (p.rawFullScale - 1) = p.pwmPeriod - 1 - (p.pwmPeriod - 1) / p.rawFullScale := by
  have hlt : p.pwmPeriod - 1 < p.rawFullScale * p.pwmPeriod :=
    calc p.pwmPeriod - 1 < p.pwmPeriod := p.pwmTop.val.lt_succ_self
      _ ≤ p.rawFullScale * p.pwmPeriod := Nat.le_mul_of_pos_left _ (rawFullScale_pos p)
  calc duty p (p.rawFullScale - 1)
      = (p.rawFullScale * p.pwmPeriod - (p.pwmPeriod - 1 + 1)) / p.rawFullScale := by
        rw [duty, Nat.sub_one_mul]; rfl
    _ = p.pwmPeriod - ((p.pwmPeriod - 1) / p.rawFullScale + 1) := Nat.mul_sub_div _ _ _ hlt
    _ = p.pwmPeriod - 1 - (p.pwmPeriod - 1) / p.rawFullScale := by rw [Nat.sub_sub, Nat.add_comm]

/-- Settles O28: `duty_le_duty`, `duty_lt_pwmPeriod` and `duty_top`. -/
theorem dutyMonotoneAndBounded : Obligations.DutyMonotoneAndBounded := by
  refine fun p a b hab hb => ⟨duty_le_duty p hab, duty_lt_pwmPeriod hb, ?_, duty_top p⟩
  rw [duty, Nat.zero_mul, Nat.zero_div]

/-- Settles O30: no event but PWMPB writes the active register, and a PWMPB gives it the shadow register's value. -/
theorem compareWaitsForBoundary : Obligations.CompareWaitsForBoundary := by
  intro is s hall
  constructor
  · refine runTo_keeps (P := fun u => u.cmpActive = s.cmpActive) (fun i u t h hi hu => ?_) rfl hall
    cases h with
    | pwmpb => cases hi
    | _ => exact hu
  · rw [runTo_append, runTo, runTo, Transition.pwmpb.after_eq]

/-! ## Decimal digits (40_bcd.md R101) -/

/-- Settles O32: `bcd16_holds`. -/
theorem doubleDabbleIsDecimal : Obligations.DoubleDabbleIsDecimal :=
  fun n => ⟨(bcd16_holds n).tens, (bcd16_holds n).units⟩

/-! ## The status port (10_state.md R36) -/

theorem RxState.encoding_injective : Function.Injective RxState.encoding := by
  intro a b h
  cases a <;> cases b <;> simp [RxState.encoding] at h ⊢

theorem TxState.encoding_injective : Function.Injective TxState.encoding := by
  intro a b h
  cases a <;> cases b <;> simp [TxState.encoding] at h ⊢

theorem MuxState.encoding_injective : Function.Injective MuxState.encoding := by
  intro a b h
  cases a <;> cases b <;> simp [MuxState.encoding] at h ⊢

theorem DebState.encoding_injective : Function.Injective DebState.encoding := by
  intro a b h
  cases a <;> cases b <;> simp [DebState.encoding] at h ⊢

theorem RxState.encoding_lt (r : RxState) : r.encoding < 4 := by cases r <;> decide

theorem TxState.encoding_lt (x : TxState) : x.encoding < 4 := by cases x <;> decide

theorem MuxState.encoding_lt (m : MuxState) : m.encoding < 2 := by cases m <;> decide

theorem DebState.encoding_lt (d : DebState) : d.encoding < 2 := by cases d <;> decide

theorem status_lt_two_pow_width (s : State) (e : Element) : s.status e < 2 ^ e.width := by
  cases e with
  | rxState => exact s.rxState.encoding_lt
  | txState => exact s.txState.encoding_lt
  | muxState => exact s.muxState.encoding_lt
  | debState => exact s.debState.encoding_lt
  | pktFlag | sel1 | sel2 | indicator => exact Bool.toNat_lt _
  | win0 | win1 | dig1 | dig2 | seg | sample | cmpShadow | cmpActive | ctrl => exact BitVec.isLt _

theorem boolToNat_eq_ite (b : Bool) : b.toNat = if b = true then 1 else 0 := by
  cases b <;> rfl

theorem boolToNat_injective : Function.Injective Bool.toNat := by
  unfold Function.Injective
  decide

/-- Settles O37: what each read is, by its definition; the widths by `status_lt_two_pow_width`; and each encoding is
injective, so the reads determine the elements. -/
theorem statusPortShowsEveryElement : Obligations.StatusPortShowsEveryElement := by
  refine ⟨fun s => ?_, status_lt_two_pow_width, rfl, fun s t h => ?_⟩
  · exact ⟨congrArg RxState.encoding, congrArg RxState.encoding, congrArg RxState.encoding, congrArg RxState.encoding,
      rfl, rfl, rfl, rfl, boolToNat_eq_ite _, congrArg TxState.encoding, congrArg TxState.encoding,
      congrArg TxState.encoding, congrArg TxState.encoding, congrArg MuxState.encoding, congrArg MuxState.encoding,
      boolToNat_eq_ite _, boolToNat_eq_ite _, rfl, congrArg DebState.encoding, congrArg DebState.encoding, boolToNat_eq_ite _,
      rfl, rfl, rfl, rfl⟩
  · exact ⟨RxState.encoding_injective (h .rxState), BitVec.eq_of_toNat_eq (h .win0), BitVec.eq_of_toNat_eq (h .win1),
      BitVec.eq_of_toNat_eq (h .dig1), BitVec.eq_of_toNat_eq (h .dig2), boolToNat_injective (h .pktFlag),
      TxState.encoding_injective (h .txState), MuxState.encoding_injective (h .muxState), boolToNat_injective (h .sel1),
      boolToNat_injective (h .sel2), BitVec.eq_of_toNat_eq (h .seg), DebState.encoding_injective (h .debState),
      boolToNat_injective (h .indicator), BitVec.eq_of_toNat_eq (h .sample), BitVec.eq_of_toNat_eq (h .cmpShadow),
      BitVec.eq_of_toNat_eq (h .cmpActive), BitVec.eq_of_toNat_eq (h .ctrl)⟩

end Sys2Proof.Machine

/-! ## What no event reads (10_state.md R30, R38; 45_sampler_pwm.md R154) -/

namespace Sys2Proof.Machine

/-- TRIGGER_SOURCE stands in no row's condition and in nothing a row writes, so the same row applies under the other. -/
theorem Transition.with_triggerSource {i : Instr} {s t : State} (h : Transition s i t) (x : TriggerSource) :
    Transition { s with params := { s.params with triggerSource := x } } i
      { t with params := { t.params with triggerSource := x } } := by
  cases h with
  | ignored hno => exact .ignored (by cases i <;> exact hno)
  | _ => constructor <;> assumption

/-- Settles O52: `Transition.with_triggerSource`. -/
theorem triggerSourceChangesNothing : Obligations.TriggerSourceChangesNothing :=
  fun _ _ _ x hexec => ((exec_transition hexec).with_triggerSource x).exec_eq

/-- Settles O51: the rows that write one of the five elements, each by itself; every other row reads and writes none. -/
theorem outputOnlyElementsNeverRead : Obligations.OutputOnlyElementsNeverRead := by
  intro i s t hexec
  cases exec_transition hexec with
  | conv hraw hen => exact ⟨true, false, false, fun _ _ _ _ _ => Transition.exec_eq (.conv hraw hen)⟩
  | pwmpb => exact ⟨false, true, false, fun _ _ _ _ _ => Transition.exec_eq .pwmpb⟩
  | tickOne hen hmux hseg => exact ⟨false, false, true, fun _ _ _ _ _ => Transition.exec_eq (.tickOne hen hmux hseg)⟩
  | tickTwo hen hmux hseg => exact ⟨false, false, true, fun _ _ _ _ _ => Transition.exec_eq (.tickTwo hen hmux hseg)⟩
  | ignored hno =>
    exact ⟨false, false, false, fun _ _ _ _ _ => Transition.exec_eq (.ignored (by cases i <;> exact hno))⟩
  | _ => exact ⟨false, false, false, fun _ _ _ _ _ => Transition.exec_eq (by constructor <;> assumption)⟩

/-! ### The window before it is written (R38) -/

/-- Another run's window cells `x`, `y` differ from those of `s` only where they will be written before they are read: a
cell that the frame in progress has filled is the same, and both are while a packet is flagged or an echo in progress. -/
structure WindowAgrees (s : State) (x y : Byte) : Prop where
  digit1 : s.rxState = .gotDigit1 ∨ s.rxState = .gotDigit2 → x = s.win0
  digit2 : s.rxState = .gotDigit2 → y = s.win1
  held : s.pktFlag = true ∨ s.txState ≠ .idle → x = s.win0 ∧ y = s.win1

/-- The two runs take the same row. The window is read by an acceptance and by the TXRDYs of an echo, where it agrees. -/
theorem WindowAgrees.step {i : Instr} {s t : State} {x y : Byte} (hw : WindowAgrees s x y) (h : Transition s i t) :
    ∃ x' y', Transition { s with win0 := x, win1 := y } i { t with win0 := x', win1 := y' } ∧ WindowAgrees t x' y' := by
  obtain ⟨hdigit1, hdigit2, hheld⟩ := hw
  cases h with
  | ignored hno => exact ⟨x, y, .ignored (by cases i <;> exact hno), hdigit1, hdigit2, hheld⟩
  | rxStart hen hrx => exact ⟨x, y, .rxStart hen hrx, nofun, nofun, hheld⟩
  | rxDigit1 hen hrx => exact ⟨_, y, .rxDigit1 hen hrx, fun _ => rfl, nofun, fun hh => ⟨rfl, (hheld hh).2⟩⟩
  | rxDigit2 hen hrx =>
    exact ⟨x, _, .rxDigit2 hen hrx, fun _ => hdigit1 (.inl hrx), fun _ => rfl, fun hh => ⟨(hheld hh).1, rfl⟩⟩
  | rxAccept hen hrx =>
    obtain rfl := hdigit1 (.inr hrx)
    obtain rfl := hdigit2 hrx
    exact ⟨_, _, .rxAccept hen hrx, fun _ => rfl, fun _ => rfl, fun _ => ⟨rfl, rfl⟩⟩
  | rxReject hen hrx hb => exact ⟨x, y, .rxReject hen hrx hb, nofun, nofun, hheld⟩
  | armStart hstart =>
    obtain ⟨rfl, rfl⟩ := hheld (.inl (canStartEcho_eq_true_iff.1 hstart).1)
    exact ⟨_, _, .armStart hstart, fun _ => rfl, fun _ => rfl, fun _ => ⟨rfl, rfl⟩⟩
  | txDigit1 hen htx =>
    obtain ⟨rfl, rfl⟩ := hheld (.inr (by simp [htx]))
    exact ⟨_, _, .txDigit1 hen htx, fun _ => rfl, fun _ => rfl, fun _ => ⟨rfl, rfl⟩⟩
  | txDigit2 hen htx =>
    obtain ⟨rfl, rfl⟩ := hheld (.inr (by simp [htx]))
    exact ⟨_, _, .txDigit2 hen htx, fun _ => rfl, fun _ => rfl, fun _ => ⟨rfl, rfl⟩⟩
  | txEnd hen htx =>
    obtain ⟨rfl, rfl⟩ := hheld (.inr (by simp [htx]))
    exact ⟨_, _, .txEnd hen htx, fun _ => rfl, fun _ => rfl, fun _ => ⟨rfl, rfl⟩⟩
  | _ => exact ⟨x, y, by constructor <;> assumption, hdigit1, hdigit2, hheld⟩

theorem outputs_eq_of_windowAgrees (is : List Instr) {s : State} {x y : Byte} (hw : WindowAgrees s x y) :
    outputs is { s with win0 := x, win1 := y } = outputs is s := by
  induction is generalizing s x y with
  | nil => rfl
  | cons i is ih =>
    obtain ⟨x', y', h, hw'⟩ := hw.step (transition_after i s)
    rw [outputs, h.after_eq, ih hw', outputs]

/-- Settles O50: at reset no frame is in progress, no packet flagged and no echo in progress, so any window agrees. -/
theorem resetWindowNeverObserved : Obligations.ResetWindowNeverObserved := fun _ is _ _ =>
  outputs_eq_of_windowAgrees is ⟨nofun, nofun, nofun⟩

end Sys2Proof.Machine

/-! ## Repeated events (20_memory.md R55) -/

namespace Sys2Proof.Machine

/-- An event that is ignored is ignored again. -/
theorem after_after_of_ignored {i : Instr} {s : State} (h : Ignored s i) : after i (after i s) = after i s := by
  have hfirst : after i s = { s with outs := [] } := (Transition.ignored h).after_eq
  have hsecond : after i { s with outs := [] } = { s with outs := [] } :=
    (Transition.ignored (s := { s with outs := [] }) (by cases i <;> exact h)).after_eq
  rw [hfirst, hsecond]

/-- Settles O53: a register write repeated writes the same value; BCDPUB draws nothing in the cases asked for; an ignored
event is ignored again. -/
theorem repeatedEventsIdempotent : Obligations.RepeatedEventsIdempotent := by
  refine fun s => ⟨fun e => ?_, ?_, fun n hn => ?_, fun hno => ?_, fun hidle => ?_⟩
  · rw [Transition.ctrlw.after_eq, Transition.ctrlw.after_eq]
  · rw [Transition.pwmpb.after_eq, Transition.pwmpb.after_eq]
  · have hdigits := bcdDigits_of_algorithm_or_le hn
    rw [(Transition.bcdpub (hdigits s.drawCount)).after_eq]
    exact (Transition.bcdpub (hdigits s.drawCount)).after_eq
  · exact after_after_of_ignored (i := .arm) (canStartEcho_eq_false_iff.2 hno)
  · exact after_after_of_ignored (i := .txrdy) (Or.inr hidle)

/-! ## Event priority (60_exceptions.md R175) -/

theorem maySelect_iff {pr : EventPriority} {pending : List Instr} {i : Instr} :
    maySelect pr pending i = true ↔
      i ∈ pending ∧ ∀ j ∈ pending, priorityRank pr (codeOf i) ≤ priorityRank pr (codeOf j) := by
  simp [maySelect]

/-- The ten event codes. -/
def allCodes : List EventCode := [.rxb, .txrdy, .arm, .tick, .edge, .debexp, .conv, .pwmpb, .bcdpub, .ctrlw]

theorem mem_allCodes (c : EventCode) : c ∈ allCodes := by cases c <;> decide

/-- Ten codes without repeats are all of them. -/
theorem mem_of_legal {order : List EventCode} (h : (EventPriority.fixed order).legal = true) (c : EventCode) :
    c ∈ order := by
  obtain ⟨hnodup, hlength⟩ := of_decide_eq_true h
  refine Decidable.by_contra fun hc => ?_
  have hsub : (c :: order).length ≤ allCodes.length :=
    (List.nodup_cons.2 ⟨hc, hnodup⟩).length_le_of_subset fun c _ => mem_allCodes c
  rw [List.length_cons, hlength] at hsub
  exact absurd hsub (by decide)

theorem eq_of_idxOf_eq {order : List EventCode} {c d : EventCode} (hc : c ∈ order)
    (h : order.idxOf c = order.idxOf d) : c = d := by
  have hlt : order.idxOf c < order.length := List.idxOf_lt_length_of_mem hc
  calc c = order[order.idxOf c] := (List.getElem_idxOf hlt).symm
    _ = order[order.idxOf d]'(h ▸ hlt) := getElem_congr_idx h
    _ = d := List.getElem_idxOf _

theorem exists_mem_forall_le (rank : Instr → Nat) {pending : List Instr} (hne : pending ≠ []) :
    ∃ i ∈ pending, ∀ j ∈ pending, rank i ≤ rank j :=
  ⟨pending.minOn rank hne, List.minOn_mem, fun _ => List.apply_minOn_le_of_mem⟩

/-- Settles O54: `maySelect` asks for a pending event of least rank (`maySelect_iff`). Under a total order a rank belongs
to one code only, since every code stands in the list (`mem_of_legal`). -/
theorem priorityServesHighestFirst : Obligations.PriorityServesHighestFirst := by
  refine ⟨fun pending i => ?_, fun order pending hlegal => ⟨fun i hi => ?_, fun i j hi hj => ?_, fun hne => ?_,
    fun i j hi hj => ?_, fun i j hi hj hcode => ?_⟩⟩
  · exact maySelect_iff.trans (and_iff_left fun _ _ => Nat.le_refl 0)
  · exact (maySelect_iff.1 hi).1
  · obtain ⟨hmem, hleast⟩ := maySelect_iff.1 hi
    obtain ⟨hmem', hleast'⟩ := maySelect_iff.1 hj
    exact eq_of_idxOf_eq (mem_of_legal hlegal _) (Nat.le_antisymm (hleast j hmem') (hleast' i hmem))
  · obtain ⟨i, hmem, hleast⟩ := exists_mem_forall_le (fun i => priorityRank (.fixed order) (codeOf i)) hne
    exact ⟨i, hmem, maySelect_iff.2 ⟨hmem, hleast⟩⟩
  · exact (maySelect_iff.1 hi).2 j hj
  · exact maySelect_iff.2 ⟨hj, hcode ▸ (maySelect_iff.1 hi).2⟩

end Sys2Proof.Machine

/-! ## Words written out (30_encoding.md R72, R75, R76) -/

namespace Sys2Proof

/-- Settles O10: each of the ten words is its event's by evaluation. -/
theorem sampleWordsDecode : Obligations.SampleWordsDecode :=
  ⟨rfl, rfl, rfl, rfl, rfl, rfl, rfl, rfl, rfl, rfl⟩

namespace Machine

theorem eventBits_lt (c : EventCode) : (eventBits c).toNat < 11 := by cases c <;> decide

theorem ofNat_eventBits (c : EventCode) : BitVec.ofNat 32 ((eventBits c).toNat * 2 ^ 28) = eventMatch c := by
  cases c <;> rfl

/-- An operand of at most 16 bits does not carry into `OP` (R75; log 7 speaks of longer ones). -/
theorem lineWord_eq_some (c : EventCode) {v : Nat} (hv : v < 2 ^ 16) :
    Script.lineWord (c, v) = some (eventMatch c + BitVec.ofNat 32 v) := by
  have hbits := eventBits_lt c
  rw [Script.lineWord, if_pos (by dsimp only; omega), BitVec.ofNat_add, ofNat_eventBits]

/-- Settles O56: each line's word by `lineWord_eq_some`, each pseudo-event by the definition of `expand`. -/
theorem scriptLinesExpand : Obligations.ScriptLinesExpand :=
  ⟨fun _ hv => ⟨lineWord_eq_some .rxb hv, lineWord_eq_some .debexp hv, lineWord_eq_some .conv hv,
      lineWord_eq_some .bcdpub hv, lineWord_eq_some .ctrlw hv⟩,
    lineWord_eq_some .txrdy (by decide), lineWord_eq_some .arm (by decide), lineWord_eq_some .tick (by decide),
    lineWord_eq_some .edge (by decide), lineWord_eq_some .pwmpb (by decide),
    fun _ => rfl, fun _ _ => rfl, rfl, fun _ => rfl, fun _ _ => rfl, fun _ => rfl⟩

end Machine

end Sys2Proof
